-- ==== Sys2Proof/Word.lean ====
section
/-! DEFINITION. The byte and counter widths of the LC2260 and their plainest arithmetic
(00_scope.md, Counters and Layouts: device counters saturate, channel counters wrap, multi-byte
fields are sent high byte first). -/

namespace Sys2Proof

/-- One beat's eight data lines; every byte that crosses the trunk or a spur. -/
abbrev Byte := BitVec 8

/-- A 16-bit device or drop counter, or a two-byte profile field. -/
abbrev Count16 := BitVec 16

/-- A 32-bit wrapping channel counter. -/
abbrev Count32 := BitVec 32

/-- Increment of a counter that stops at its greatest value (00_scope.md, Counters). -/
def satInc {w : Nat} (x : BitVec w) : BitVec w :=
  if x = BitVec.allOnes w then x else x + 1

end Sys2Proof
end

