-- ==== Sys2Proof/Syntax.lean ====
section
/-! DEFINITION. The commands of the part, one constructor for each row of spec/opcode_table.json:
what the host and the peripherals do at the lines, the 23 management requests, and the expiries of
the part's own timers. -/

namespace Sys2Proof

/-- A spur S0 to S3. -/
abbrev Spur := Fin 4

/-- A playback context (R159). -/
abbrev Context := Fin 4

/-- One command. A request carries its sequence byte and its parameter bytes, so its body is the
code, the sequence and the parameters (09_the_management_channel.md, Envelopes). -/
inductive Instr where
  /-- TRUNK_IN_BEAT (R1): the host presents a byte and a MARK level and asserts TIRQ. -/
  | trunkInBeat (mark : Bool) (data : Byte)
  /-- TIRQ_DEASSERTED (R1): the host deasserts TIRQ. -/
  | tirqDeasserted
  /-- GAP_TIMER_EXPIRY (R10). -/
  | gapTimerExpiry
  /-- BREAK_CONDITION_CHANGE (R15): the host moves TIMK and TIRQ to these levels. -/
  | breakConditionChange (timk tirq : Bool)
  /-- TRUNK_BREAK (R16): the break condition has held for the break time. -/
  | trunkBreak
  /-- TOAK_ASSERTED (R2). -/
  | toakAsserted
  /-- TOAK_DEASSERTED (R2). -/
  | toakDeasserted
  /-- IDENTIFY (R183): a request with code 1. -/
  | identify (seq : Byte) (params : List Byte)
  /-- READ_STATUS (R184): a request with code 2. -/
  | readStatus (seq : Byte) (params : List Byte)
  /-- RESET_COUNTERS (R187): a request with code 3. -/
  | resetCounters (seq : Byte) (params : List Byte)
  /-- RESTART (R189): a request with code 4. -/
  | restart (seq : Byte) (params : List Byte)
  /-- SET_TRUNK (R17): a request with code 5. -/
  | setTrunk (seq : Byte) (params : List Byte)
  /-- SET_PROFILE (R77): a request with code 6. -/
  | setProfile (seq : Byte) (params : List Byte)
  /-- READ_PROFILE (R78): a request with code 7. -/
  | readProfile (seq : Byte) (params : List Byte)
  /-- SET_SPUR (R93): a request with code 8. -/
  | setSpur (seq : Byte) (params : List Byte)
  /-- READ_SPUR (R95): a request with code 9. -/
  | readSpur (seq : Byte) (params : List Byte)
  /-- OPEN_CHANNEL (R25): a request with code 10. -/
  | openChannel (seq : Byte) (params : List Byte)
  /-- CLOSE_CHANNEL (R30): a request with code 11. -/
  | closeChannel (seq : Byte) (params : List Byte)
  /-- HALT_CHANNEL (R28): a request with code 12. -/
  | haltChannel (seq : Byte) (params : List Byte)
  /-- RESUME_CHANNEL (R29): a request with code 13. -/
  | resumeChannel (seq : Byte) (params : List Byte)
  /-- READ_CHANNEL (R40): a request with code 14. -/
  | readChannel (seq : Byte) (params : List Byte)
  /-- SET_TEE (R42): a request with code 15. -/
  | setTee (seq : Byte) (params : List Byte)
  /-- CREATE_SEGMENT (R151): a request with code 16. -/
  | createSegment (seq : Byte) (params : List Byte)
  /-- WRITE_SEGMENT (R152): a request with code 17. -/
  | writeSegment (seq : Byte) (params : List Byte)
  /-- READ_SEGMENT (R153): a request with code 18. -/
  | readSegment (seq : Byte) (params : List Byte)
  /-- DELETE_SEGMENT (R154): a request with code 19. -/
  | deleteSegment (seq : Byte) (params : List Byte)
  /-- LIST_SEGMENTS (R155): a request with code 20. -/
  | listSegments (seq : Byte) (params : List Byte)
  /-- PLAY_SEGMENT (R160): a request with code 21. -/
  | playSegment (seq : Byte) (params : List Byte)
  /-- STOP_PLAY (R166): a request with code 22. -/
  | stopPlay (seq : Byte) (params : List Byte)
  /-- SET_QUOTA (R156): a request with code 23. -/
  | setQuota (seq : Byte) (params : List Byte)
  /-- UNKNOWN_REQUEST (R171): a request with a code 0 or 24 to 255. -/
  | unknownRequest (code seq : Byte) (params : List Byte)
  /-- REPEAT_ANSWER (R178): the host sends a request again, with the code and sequence it had. -/
  | repeatAnswer (code seq : Byte) (params : List Byte)
  /-- SNRDY_CHANGE (R86): the peripheral moves SnRDY (true is READY) and presents a byte. -/
  | snrdyChange (spur : Spur) (ready : Bool) (data : Byte)
  /-- SNATN_CHANGE (R72): the peripheral moves SnATN. -/
  | snatnChange (spur : Spur) (asserted : Bool)
  /-- SETUP_TIME_ELAPSED (R81). -/
  | setupTimeElapsed (spur : Spur)
  /-- STROBE_WIDTH_ELAPSED (R82, R89, R90), with the levels the peripheral then presents on the
  data lines, which a PACED pulse latches. -/
  | strobeWidthElapsed (spur : Spur) (data : Byte)
  /-- PACING_INTERVAL_ELAPSED (R83, R90). -/
  | pacingIntervalElapsed (spur : Spur)
  /-- ACK_LIMIT_EXPIRY (R80, R88). -/
  | ackLimitExpiry (spur : Spur)
  /-- TURN_IN_COMPLETE (R68). -/
  | turnInComplete (spur : Spur)
  /-- TURN_OUT_COMPLETE (R69). -/
  | turnOutComplete (spur : Spur)
  /-- YIELD_TIMER_EXPIRY (R75). -/
  | yieldTimerExpiry (spur : Spur)
  /-- IDLE_TIMER_EXPIRY (R106). -/
  | idleTimerExpiry (spur : Spur)
  /-- SPACING_TIMER_ELAPSED (R161). -/
  | spacingTimerElapsed (context : Context)
  /-- HOLD_OFF_EXPIRY (R126). -/
  | holdOffExpiry
  /-- RESET_N_ASSERTED (R192). -/
  | resetNAsserted
  /-- RESET_N_RELEASED (R193). -/
  | resetNReleased
  deriving DecidableEq, Repr

end Sys2Proof
end

