-- ==== Sys2Proof/Config.lean ====
section
/-! DEFINITION. What the part fixes (00_scope.md, Capacities at a glance) and the values the spec
leaves open. -/

namespace Sys2Proof.Config

/-- Cells of the Cell Pool (R135). -/
abbrev cells : Nat := 2048
/-- Descriptors of the Cell Pool (R135). -/
abbrev descriptors : Nat := 128
/-- Cells of the management reserve (R137). -/
abbrev reserveCells : Nat := 64
/-- Descriptors of the management reserve (R137). -/
abbrev reserveDescriptors : Nat := 8
/-- Bytes of one cell (R7). -/
abbrev cellBytes : Nat := 32
/-- Greatest body length of a parcel (R3). -/
abbrev maxBody : Nat := 240
/-- Greatest sum of credit limits on one spur (R26). -/
abbrev creditQuota : Nat := 30
/-- Parcels the two trunk-out data queues hold together (R117). -/
abbrev dataQueueDepth : Nat := 48
/-- Responses the response queue holds (R116). -/
abbrev responseDepth : Nat := 4
/-- Requests the Management Engine holds (R172). -/
abbrev requestDepth : Nat := 4
/-- Records of the notice FIFO (R123). -/
abbrev fifoDepth : Nat := 48
/-- Records of one notice parcel (R129). -/
abbrev noticeRecords : Nat := 16
/-- Entries of one segment (R149). -/
abbrev segmentEntries : Nat := 255
/-- Greatest cell limit and greatest quota (R151, R156). -/
abbrev maxSegmentCells : Nat := 1536
/-- Express grants that may pass a waiting normal parcel (R121). -/
abbrev expressRun : Nat := 8

/-- More rules than an act can take before it ends or has nothing left but the lane decisions that it
put behind the rest (log 2). -/
def actBound : Nat := 4294967296

/-- Lane decisions after zero-length entries of endless unspaced playbacks that one act takes before it is
cut and goes on in the next step. A segment has at most 255 entries, so an act that comes to this bound
plays one whose entries all have length 0, and would never end.
DESIGN CHOICE, safe (log 2): nothing is lost by the cut. -/
def endlessBound : Nat := 4096

/-- FREE VALUE (log 7). The level of TOD0 to TOD7 after the n-th deassertion of TORQ: R2 fixes the
levels only until TORQ is deasserted. Nothing constrains it. -/
opaque freeData : Nat → Byte

/-- FREE VALUE (log 7). The level of TOMK after the n-th deassertion of TORQ (R2). -/
opaque freeMark : Nat → Bool

end Sys2Proof.Config
end

