-- ==== Sys2Proof/Machine/State.lean ====
section
/-! DEFINITION. Everything the part holds, block by block (00_scope.md, Block overview), as plain
data, and the state right after a line reset. A field that the spec ties to a state of its owner
stands inside that state's constructor, so it is absent otherwise. -/

namespace Sys2Proof.Machine

/-- A data channel: the value 0 is channel 1, 46 is channel 47 (R21). -/
abbrev Chan := Fin 47
/-- A segment handle: the value 0 is handle 1, 15 is handle 16 (R148). -/
abbrev Handle := Fin 16
/-- One of the eight profiles (R77). -/
abbrev ProfileNo := Fin 8

/-! ### Profiles and spur configuration -/

/-- The four handshake disciplines (04, section 4.5). -/
inductive Discipline where
  | interlock | gated | paced | toggle
  deriving DecidableEq, Repr

/-- The five fields of a profile (04, section 4.5); also a lane's snapshot of it (R56, R79). -/
structure Profile where
  discipline : Discipline
  setup      : Byte
  strobe     : Byte
  pacing     : Count16
  ackLimit   : Count16
  deriving DecidableEq, Repr

/-- A profile after a line reset (table of section 4.5). -/
def Profile.default : Profile :=
  { discipline := .interlock, setup := 10, strobe := 10, pacing := 100, ackLimit := 1000 }

/-- OUT: the part drives the lane (outward). IN: the peripheral does (inward). -/
inductive Facing where
  | outward | inward
  deriving DecidableEq, Repr

/-- Whether the lane heeds SnATN (04, section 4.8). -/
inductive Attention where
  | honor | ignore
  deriving DecidableEq, Repr

/-- The five fields of a spur's configuration (R93). -/
structure SpurConfig where
  enable    : Bool
  home      : Facing
  guard     : Byte
  attention : Attention
  yield     : Byte
  deriving DecidableEq, Repr

/-- A spur's configuration after a line reset (table of section 4.8). -/
def SpurConfig.default : SpurConfig :=
  { enable := false, home := .outward, guard := 5, attention := .honor, yield := 20 }

/-! ### Parcels and records -/

/-- A parcel on trunk-out: its tag and body; the transmitter computes length and check (R3, R18). -/
structure Parcel where
  tag  : Byte
  body : List Byte
  deriving DecidableEq, Repr

/-- Who put a parcel into a spur queue; a PLAYBACK parcel names its context while that context has
not ended (R52, R60). -/
inductive Origin where
  | host
  | playback (context : Option Context)
  deriving DecidableEq, Repr

/-- An outbound parcel with its descriptor and cells (R52). -/
structure Outbound where
  chan   : Chan
  origin : Origin
  body   : List Byte
  deriving DecidableEq, Repr

/-- A gathered parcel in a data queue (R117). -/
structure Inbound where
  chan : Chan
  body : List Byte
  deriving DecidableEq, Repr

/-- Why a data parcel was dropped (R132). -/
inductive DropReason where
  | closed | closing | direction | overdrawn | check | truncated | length | noroom
  deriving DecidableEq, Repr

/-- Why a playback ended (R132). -/
inductive PlayReason where
  | done | stopped | closed
  deriving DecidableEq, Repr

/-- Which reset came last (R188). -/
inductive ResetKind where
  | line | restart
  deriving DecidableEq, Repr

/-- A four-byte notice record (R132). -/
inductive Record where
  | started (kind : ResetKind)
  | credit (chan : Chan) (count : Nat)
  | drop (chan : Chan) (reason : DropReason)
  | stall (chan : Chan) (detail : Nat)
  | overrun (chan : Chan) (bytes : Nat)
  | shut (chan : Chan) (drained discarded : Byte)
  | capfull (handle : Handle) (entries : Nat)
  | playend (chan : Chan) (handle : Handle) (reason : PlayReason)
  | brk
  | loss (count : Byte)
  | reqlost (code seq : Byte)
  deriving DecidableEq, Repr

/-! ### The trunk -/

/-- The parcel under reception (01, section 1.3): `stored` holds its body bytes in STORING mode and
is absent in NO-STORAGE mode, when it holds no descriptor and no cell (R11). -/
structure Reception where
  tag      : Byte
  len      : Byte
  count    : Nat
  stored   : Option (List Byte)
  first    : List Byte
  gapLimit : Byte
  deriving DecidableEq, Repr

/-- The receiver's states (01, section 1.3). -/
inductive RxState where
  | hunt
  | length (p : Reception)
  | body (p : Reception)
  | check (p : Reception)
  | discard
  deriving DecidableEq, Repr

/-- The break timer; `declared` is a running condition whose break has been declared (R15). -/
inductive BreakTimer where
  | stopped | running | declared
  deriving DecidableEq, Repr

/-- The seven trunk error counters (R14). -/
structure TrunkCounts where
  stray   : Count16
  framing : Count16
  length  : Count16
  check   : Count16
  gap     : Count16
  unknown : Count16
  breaks  : Count16
  deriving DecidableEq, Repr

/-- All seven counters at 0. -/
def TrunkCounts.zero : TrunkCounts :=
  { stray := 0, framing := 0, length := 0, check := 0, gap := 0, unknown := 0, breaks := 0 }

/-- The Trunk Receiver (01, section 1.3). `gapTimer` holds the limit while the timer runs. -/
structure Receiver where
  state      : RxState
  sum        : Byte
  gapTimer   : Option Byte
  breakTimer : BreakTimer
  gapLimit   : Byte
  counts     : TrunkCounts
  deriving DecidableEq, Repr

/-- The trunk-in lines: TID, TIMK and TIRQ from the host, TIAK from the part (R1). -/
structure TrunkIn where
  tid  : Byte
  timk : Bool
  tirq : Bool
  tiak : Bool
  deriving DecidableEq, Repr

/-- The trunk-out lines: TOD, TOMK and TORQ from the part, TOAK from the host (R2). -/
structure TrunkOut where
  tod  : Byte
  tomk : Bool
  torq : Bool
  toak : Bool
  deriving DecidableEq, Repr

/-- The phase of a trunk-out beat: not yet presented because TOAK stands asserted after a line reset
(R193); presented with TORQ asserted; or acknowledged, waiting for TOAK to be deasserted (R2). -/
inductive TxPhase where
  | awaitLow | presented | acknowledged
  deriving DecidableEq, Repr

/-- The parcel in transmission and the beat it stands at, 1 to L + 3 (R18); `restart` marks the
response to an executed RESTART (R19). -/
structure Transmission where
  parcel  : Parcel
  beat    : Nat
  phase   : TxPhase
  restart : Bool
  deriving DecidableEq, Repr

/-! ### The Channel Map -/

/-- The class of inbound data (R117). -/
inductive DataClass where
  | normal | express
  deriving DecidableEq, Repr

/-- A gather terminator (R105). -/
structure Terminator where
  byte : Byte
  keep : Bool
  deriving DecidableEq, Repr

/-- The settings of an IN channel (R21). -/
structure InSettings where
  gatherCount : Nat
  terminator  : Option Terminator
  idleGap     : Option Byte
  cls         : DataClass
  deriving DecidableEq, Repr

/-- A channel's direction with the fields that go with it (R21). -/
inductive Direction where
  | outbound (limit outstanding : Nat)
  | inbound (settings : InSettings)
  deriving DecidableEq, Repr

/-- Why a channel is HALTED (R24, R28). -/
inductive HaltCause where
  | stall | host
  deriving DecidableEq, Repr

/-- How a channel is being closed (R30). -/
inductive CloseMode where
  | drain | discard
  deriving DecidableEq, Repr

/-- The states of a channel other than CLOSED, with their fields (R21, R23). -/
inductive Phase where
  | opened
  | halted (cause : HaltCause)
  | draining (mode : CloseMode) (drained discarded : Byte)
  deriving DecidableEq, Repr

/-- What an entry holds while it is not CLOSED (R21). -/
structure Link where
  dir     : Direction
  spur    : Spur
  profile : ProfileNo
  tee     : Option Handle
  phase   : Phase
  deriving DecidableEq, Repr

/-- An entry of the Channel Map; no link is the state CLOSED (R21, R22). -/
structure Channel where
  link    : Option Link
  parcels : Count32
  bytes   : Count32
  drops   : Count16
  deriving DecidableEq, Repr

/-- A CLOSED entry with its counters at 0 (R43). -/
def Channel.fresh : Channel := { link := none, parcels := 0, bytes := 0, drops := 0 }

/-! ### Spur columns -/

/-- The lane states (04, section 4.2). -/
inductive LaneState where
  | off | idleOut | sending | turnIn | idleIn | receiving | turnOut
  deriving DecidableEq, Repr

/-- Where an outbound beat stands (R81 to R84). -/
inductive OutPhase where
  /-- INTERLOCK and GATED: waiting for READY before the data. -/
  | waitReady
  /-- The byte is presented and the setup time runs. -/
  | setup
  /-- INTERLOCK: strobe asserted, waiting for BUSY. -/
  | waitBusy
  /-- INTERLOCK: strobe deasserted, waiting for the return to READY. -/
  | waitReturn
  /-- GATED: the strobe width runs. -/
  | strobe
  /-- PACED: the strobe width and the pacing interval run or have elapsed. -/
  | pulse (strobeRuns pacingRuns : Bool)
  /-- TOGGLE: strobe inverted, waiting for SnRDY to differ from the reference. -/
  | waitToggle
  deriving DecidableEq, Repr

/-- The parcel on the lane, its snapshot, the count of completed beats and the beat in progress
(R56, R57, R80). `ackTimer` holds the limit while the timer runs. -/
structure Sending where
  parcel   : Outbound
  snap     : Profile
  done     : Nat
  phase    : OutPhase
  ackTimer : Option Count16
  deriving DecidableEq, Repr

/-- Where an inbound beat stands (R86 to R91). -/
inductive InPhase where
  /-- Backpressure: the Gather Unit has not yet taken the byte. -/
  | held
  /-- INTERLOCK: acknowledged, waiting for the return to READY. -/
  | returning
  /-- GATED: the acknowledgement strobe runs. -/
  | strobe
  /-- PACED: the pulse runs, and the byte is latched at its end. -/
  | pulse
  deriving DecidableEq, Repr

/-- The inbound beat in progress (R86). `tests` holds while the gather that took its byte has not
been ended, so that the beat's end makes the closure test (R104, R108); `term` says the byte was the
channel's terminator. The beat keeps its discipline and ack limit even when the lane stops taking
beats and drops its snapshot (R92). -/
structure Receiving where
  disc     : Discipline
  ackLimit : Count16
  phase    : InPhase
  byte     : Option Byte
  tests    : Bool
  term     : Bool
  ackTimer : Option Count16
  deriving DecidableEq, Repr

/-- The schedule of PACED pulses (R90): no pulse yet, interval running, or interval elapsed. -/
inductive Pulses where
  | none | running | elapsed
  deriving DecidableEq, Repr

/-- A Spur Lane Engine and its lines (04, section 4.2). `ready`, `atn` and `dataIn` are the levels the
peripheral presents; `drive` is what the part drives on the data lines, absent when it does not.
`inSnap` is present exactly while the lane takes beats (R74, R79). `workSeen` is the model's own: the
outbound-work condition as the lane last saw it (R71). -/
structure Lane where
  state      : LaneState
  config     : SpurConfig
  strobe     : Bool
  drive      : Option Byte
  ready      : Bool
  atn        : Bool
  dataIn     : Byte
  sending    : Option Sending
  receiving  : Option Receiving
  inSnap     : Option Profile
  offer      : Bool
  pulses     : Pulses
  reference  : Option Bool
  guardTimer : Option Byte
  yieldTimer : Option Byte
  yieldDue   : Bool
  yieldOwed  : Bool
  workSeen   : Bool
  deriving DecidableEq, Repr

/-- The states of a Gather Unit (05, section 5.1). -/
inductive GatherState where
  | empty
  | filling (chan : Chan) (cls : DataClass) (bytes : List Byte)
  | losing (count : Nat)
  deriving DecidableEq, Repr

/-- The byte a waiting unit holds; `term` is a terminator to be dropped (R97, R101). -/
structure HeldByte where
  byte : Byte
  term : Bool
  deriving DecidableEq, Repr

/-- A Gather Unit (R97). `idleTimer` holds the idle gap while the timer runs. -/
structure Gather where
  state     : GatherState
  idleTimer : Option Byte
  lossy     : Bool
  waiting   : Option HeldByte
  deriving DecidableEq, Repr

/-- The column of one spur: queue, lane and Gather Unit. -/
structure Column where
  queue  : List Outbound
  lane   : Lane
  gather : Gather
  deriving DecidableEq, Repr

/-- An EMPTY Gather Unit after a reset (R115). -/
def Gather.fresh : Gather := { state := .empty, idleTimer := none, lossy := false, waiting := none }

/-- A lane cut by a reset, with this configuration and these input levels (R96). -/
def Lane.cut (config : SpurConfig) (ready atn : Bool) (dataIn : Byte) : Lane :=
  { state := .off, config := config, strobe := false, drive := none, ready := ready, atn := atn,
    dataIn := dataIn, sending := none, receiving := none, inSnap := none, offer := false,
    pulses := .none, reference := none, guardTimer := none, yieldTimer := none, yieldDue := false,
    yieldOwed := false, workSeen := false }

/-! ### The return path -/

/-- Status codes of responses (09, section 9.1). -/
inductive Status where
  | ok | accepted | malformed | range | state | conflict | quota | absent | busy | full
  deriving DecidableEq, Repr

/-- A response body: code, sequence, status, results (R170). -/
structure Answer where
  code    : Byte
  seq     : Byte
  status  : Status
  results : List Byte
  deriving DecidableEq, Repr

/-- A response in the response queue; `restart` marks the response to an executed RESTART (R189). -/
structure Response where
  answer  : Answer
  restart : Bool
  deriving DecidableEq, Repr

/-- The last-winner record (R122). -/
inductive Winner where
  | none | response | notice | express | normal
  deriving DecidableEq, Repr

/-- The Return Arbiter (06, section 6.2). -/
structure Arbiter where
  responses : List Response
  express   : List Inbound
  normal    : List Inbound
  run       : Nat
  last      : Winner
  deriving DecidableEq, Repr

/-- The hold-off timer (R126); RUNNING carries the hold-off it started with. -/
inductive HoldOff where
  | stopped
  | running (period : Byte)
  | expired
  deriving DecidableEq, Repr

/-- The Notice Builder (06, section 6.3). -/
structure Notices where
  fifo    : List Record
  credits : Vector Nat 47
  lost    : Byte
  timer   : HoldOff
  holdOff : Byte
  serial  : Byte
  deriving DecidableEq, Repr

/-! ### The Cell Pool -/

/-- A claimant that may wait for the pool (R142). -/
inductive Claimant where
  | gather (spur : Spur)
  | context (context : Context)
  deriving DecidableEq, Repr

/-- A waiter with the claim it was refused (R142). -/
structure Waiter where
  who         : Claimant
  descriptors : Nat
  cells       : Nat
  deriving DecidableEq, Repr

/-- The Cell Pool (07): the free counts, the management holding, the cells held by segments, and the
waiting list. Cells and descriptors have no names in the spec, so the counts stand for the free lists
(log 10). -/
structure Pool where
  freeCells       : Nat
  freeDescriptors : Nat
  mgmtCells       : Nat
  mgmtDescriptors : Nat
  segmentCells    : Nat
  waiting         : List Waiter
  deriving DecidableEq, Repr

/-! ### The Segment Store -/

/-- The states of a segment (R150). -/
inductive SegState where
  | ready | capturing | playing
  deriving DecidableEq, Repr

/-- A segment (08, section 8.1); cells held and total bytes are sums over the entries (R148). -/
structure Segment where
  label     : List Byte
  state     : SegState
  cellLimit : Nat
  entries   : List (List Byte)
  deriving DecidableEq, Repr

/-- The phases of a playback context in use (08, section 8.5). -/
inductive PlayPhase where
  | active | waiting | paused | ending
  deriving DecidableEq, Repr

/-- The spacing timer of a context in use; a FREE context's is STOPPED (R161). -/
inductive Spacing where
  | running | elapsed
  deriving DecidableEq, Repr

/-- A playback context that is not FREE (08, section 8.5); no repeats is endless. -/
structure Playback where
  phase   : PlayPhase
  handle  : Handle
  chan    : Chan
  spur    : Spur
  next    : Nat
  repeats : Option Nat
  spacing : Byte
  count   : Nat
  timer   : Spacing
  deriving DecidableEq, Repr

/-- The Segment Store (08); an absent context is FREE. -/
structure Store where
  segments : Vector (Option Segment) 16
  quota    : Nat
  contexts : Vector (Option Playback) 4
  deriving DecidableEq, Repr

/-! ### The Management Engine -/

/-- A held request (09, section 9.2); its body is the code, the sequence and the parameters. -/
structure Request where
  code    : Byte
  seq     : Byte
  params  : List Byte
  discard : Bool
  deriving DecidableEq, Repr

/-- The four management counters (R181). -/
structure EngineCounts where
  malformed  : Count16
  repeats    : Count16
  duplicates : Count16
  lost       : Count16
  deriving DecidableEq, Repr

/-- All four counters at 0. -/
def EngineCounts.zero : EngineCounts := { malformed := 0, repeats := 0, duplicates := 0, lost := 0 }

/-- The Management Engine (09, section 9.2). `restartDue` is a restart whose response was not queued
(R191). `records` holds, during an execution, the records it makes until its response has joined the
response queue (R176). -/
structure Engine where
  requests   : List Request
  remembered : Option Answer
  hold       : Bool
  restartDue : Bool
  counts     : EngineCounts
  records    : Option (List Record)
  deriving DecidableEq, Repr

/-! ### Jobs: the rules of the act in progress -/

/-- Why a gather closes (05, section 5.3). -/
inductive Closure where
  | count | terminator | idle | yield | halt | close
  deriving DecidableEq, Repr

/-- A rule, or a step of a rule, that the act in progress has still to take. The model's own: it
writes down the order in which the rules of one act follow each other (log 2). -/
inductive Job where
  /-- The receiver takes a tag beat (R4). -/
  | takeTag (data : Byte)
  /-- The Channel Map acts on a drop report (R49). -/
  | dropReport (chan : Chan) (reason : DropReason)
  /-- The Management Engine judges a good stored tag-0 parcel (R173). -/
  | arrival (body : List Byte)
  /-- The Channel Map judges a good data parcel (R45). -/
  | acceptance (chan : Chan) (body : List Byte)
  /-- A parcel dropped at acceptance makes its record and count (R48). -/
  | acceptanceDrop (chan : Chan) (reason : DropReason)
  /-- A parcel is offered to its channel's tee (R157). -/
  | capture (chan : Chan) (body : List Byte)
  /-- The engine executes its oldest request if it may (R174). -/
  | engine
  /-- The response of the execution in progress is placed (R174, steps 4 and 5). -/
  | respond (status : Status) (results : List Byte)
  /-- The last two steps of a break (R16). -/
  | breakTold
  /-- The pool serves its waiting list (R143). -/
  | serve
  /-- The outbound-work condition of a spur may have changed (R54, R71, R75). -/
  | work (spur : Spur)
  /-- The lane decides its direction, if it is idle (R71). -/
  | decide (spur : Spur)
  /-- The end of a parcel on the lane: IDLE_OUT and its decision (R72). -/
  | parcelEnd (spur : Spur)
  /-- The end of a parcel on the lane, put behind the rest of the act (R58, R72; log 2). -/
  | parcelEndLater (spur : Spur)
  /-- A context is told that one of its parcels has left the lane (R164). -/
  | tellContext (context : Context)
  /-- A context tests its emission conditions (R162). -/
  | testContext (context : Context)
  /-- A context whose channel became HALTED pauses (R165). -/
  | pauseContext (chan : Chan)
  /-- A context whose channel became OPEN again resumes (R165). -/
  | resumeContext (chan : Chan)
  /-- The drain completion test (R38). -/
  | drainTest (chan : Chan)
  /-- The lane acknowledges a backpressure byte that the Gather Unit has taken (R86), or that a halt
  or a close has dropped (R92). -/
  | acknowledge (spur : Spur)
  /-- An inbound beat ends (R86). -/
  | beatEnd (spur : Spur)
  /-- The lane enters IDLE_IN, decides, and begins or goes on taking beats (R71, R74). -/
  | idleIn (spur : Spur)
  /-- The lane, in IDLE_IN, begins or goes on taking beats (R74, R87 to R91). -/
  | takeBeats (spur : Spur)
  /-- The gather closes (R111, R113). -/
  | closeGather (spur : Spur) (closure : Closure)
  /-- The inbound snapshot is taken again after a closure (R79). -/
  | retake (spur : Spur)
  /-- Steps 2 and 3 of acting on a due yield (R76). -/
  | yieldOut (spur : Spur)
  /-- The lane stops taking beats (R74). -/
  | stopTaking (spur : Spur)
  /-- The byte waiting on the pool is dropped and the unit leaves the waiting list (R92, R101). -/
  | dropWaiting (spur : Spur)
  /-- Entry to DRAINING, step 2 under DISCARD: the gather is dropped (R109). -/
  | dropGather (spur : Spur)
  /-- Entry to DRAINING, step 3: the tee becomes absent (R31). -/
  | dropTee (chan : Chan)
  /-- Entry to DRAINING, step 4: the context ends (R167). -/
  | endContext (chan : Chan)
  /-- STOP PLAY, step 2: the queued parcels of the context are removed (R166). -/
  | removePlayback (context : Context)
  /-- A context that is off the waiting list becomes FREE, with a PLAYEND record (R166, R167). -/
  | freeContext (context : Context) (reason : PlayReason)
  /-- Entry to DRAINING under DISCARD, and upgrade: the queued parcels are removed (R33). -/
  | discardQueued (chan : Chan)
  /-- Steps 2 to 4 of an inbound stall (R88). -/
  | inboundStall (spur : Spur) (chan : Chan) (bytes : Nat)
  /-- The restart takes effect (R190). -/
  | restart
  /-- The Return Arbiter makes a grant if it can (R119, R120). -/
  | arbiter
  deriving DecidableEq, Repr

/-! ### The machine -/

/-- Everything the part holds. -/
structure State where
  /-- The commands that wait, first in, first out (the model's own, log 1). -/
  pending   : List Instr
  /-- RESET_N is asserted (R192). -/
  inReset   : Bool
  trunkIn   : TrunkIn
  trunkOut  : TrunkOut
  /-- The first presentation after a line reset waits for TOAK to be deasserted (R193). -/
  toakWait  : Bool
  rx        : Receiver
  tx        : Option Transmission
  channels  : Vector Channel 47
  columns   : Vector Column 4
  profiles  : Vector Profile 8
  arbiter   : Arbiter
  notices   : Notices
  pool      : Pool
  store     : Store
  engine    : Engine
  lastReset : ResetKind
  /-- The index of the next free value (the model's own, log 7). -/
  freeIndex : Nat
  /-- The rules of the act in progress, next first (the model's own, log 2). -/
  agenda    : List Job
  deriving DecidableEq, Repr

/-- What makes a command stop the part with a fault: nothing does. The spec gives the part no fault;
every error is a counter, a record, a status or a change of state. -/
inductive Fault where
  deriving DecidableEq, Repr

/-- Why a term of Instr is refused. -/
inductive Refusal where
  /-- Raised by exec's arm of a command that has no meaning yet; none has it now. Safe. -/
  | notModelled (mnemonic : String)
  /-- Raised by a request whose parameters are longer than 238 bytes: no parcel carries it (R3), so
  the term spells no command. Safe. -/
  | bodyTooLong
  /-- Raised by UNKNOWN_REQUEST with a code 1 to 23, which names a request (R171), so the term spells
  no command. Safe. -/
  | codeOfARequest
  deriving DecidableEq, Repr

/-- The Cell Pool after a line reset (R145). -/
def Pool.fresh : Pool :=
  { freeCells := Config.cells, freeDescriptors := Config.descriptors, mgmtCells := 0,
    mgmtDescriptors := 0, segmentCells := 0, waiting := [] }

/-- The Trunk Receiver after a line reset is released, with TIMK deasserted (R20, R193). -/
def Receiver.fresh : Receiver :=
  { state := .hunt, sum := 0, gapTimer := none, breakTimer := .stopped, gapLimit := 20,
    counts := TrunkCounts.zero }

/-- The Management Engine after a reset (R182). -/
def Engine.fresh : Engine :=
  { requests := [], remembered := none, hold := false, restartDue := false,
    counts := EngineCounts.zero, records := none }

/-- The Segment Store after a line reset (R169). -/
def Store.fresh : Store :=
  { segments := Vector.replicate 16 none, quota := 1024, contexts := Vector.replicate 4 none }

/-- The part right after a line reset is released (R193, R134): every block at its line reset value,
and the first parcel, the notice with serial 0 that carries STARTED with detail 1, granted and
presented at its tag beat, in one management descriptor and cell (R145).
DESIGN CHOICE, unsafe (log 9): every input line is deasserted, BUSY or 00h. -/
def State.reset : State :=
  { pending := []
    inReset := false
    trunkIn := { tid := 0, timk := false, tirq := false, tiak := false }
    trunkOut := { tod := 48, tomk := true, torq := true, toak := false }
    toakWait := false
    rx := Receiver.fresh
    tx := some { parcel := { tag := 48, body := [0, 1, 0, 0, 1] }, beat := 1, phase := .presented,
                 restart := false }
    channels := Vector.replicate 47 Channel.fresh
    columns := Vector.replicate 4
      { queue := [], lane := Lane.cut SpurConfig.default false false 0, gather := Gather.fresh }
    profiles := Vector.replicate 8 Profile.default
    arbiter := { responses := [], express := [], normal := [], run := 0, last := .notice }
    notices := { fifo := [], credits := Vector.replicate 47 0, lost := 0, timer := .stopped,
                 holdOff := 10, serial := 1 }
    pool := { freeCells := 2047, freeDescriptors := 127, mgmtCells := 1, mgmtDescriptors := 1,
              segmentCells := 0, waiting := [] }
    store := Store.fresh
    engine := Engine.fresh
    lastReset := .line
    freeIndex := 0
    agenda := [] }

end Sys2Proof.Machine
end

