-- ==== Sys2Proof/Machine/Ops.lean ====
section
/-! DEFINITION. The named operations over the part's state: reading and writing one channel, spur
column, segment or context; event records; the Cell Pool's claims and give-back; credits. -/

namespace Sys2Proof.Machine

/-! ### One entry of a table -/

/-- The entry of channel c (R21). -/
def State.channel (s : State) (c : Chan) : Channel := s.channels[c.val]

/-- Replace the entry of channel c. -/
def State.setChannel (s : State) (c : Chan) (x : Channel) : State :=
  { s with channels := s.channels.set c.val x }

/-- What channel c holds while it is not CLOSED. -/
def State.link (s : State) (c : Chan) : Option Link := (s.channel c).link

/-- Replace what channel c holds, keeping its counters (R22). -/
def State.setLink (s : State) (c : Chan) (l : Option Link) : State :=
  s.setChannel c { s.channel c with link := l }

/-- The column of spur n. -/
def State.column (s : State) (n : Spur) : Column := s.columns[n.val]

/-- Replace the column of spur n. -/
def State.setColumn (s : State) (n : Spur) (x : Column) : State :=
  { s with columns := s.columns.set n.val x }

/-- The lane of spur n. -/
def State.lane (s : State) (n : Spur) : Lane := (s.column n).lane

/-- Replace the lane of spur n. -/
def State.setLane (s : State) (n : Spur) (l : Lane) : State :=
  s.setColumn n { s.column n with lane := l }

/-- The Gather Unit of spur n. -/
def State.gather (s : State) (n : Spur) : Gather := (s.column n).gather

/-- Replace the Gather Unit of spur n. -/
def State.setGather (s : State) (n : Spur) (g : Gather) : State :=
  s.setColumn n { s.column n with gather := g }

/-- The queue of spur n, oldest first (R52). -/
def State.queue (s : State) (n : Spur) : List Outbound := (s.column n).queue

/-- Replace the queue of spur n. -/
def State.setQueue (s : State) (n : Spur) (q : List Outbound) : State :=
  s.setColumn n { s.column n with queue := q }

/-- The segment at a handle, if one exists. -/
def State.segment (s : State) (h : Handle) : Option Segment := s.store.segments[h.val]

/-- Replace the place of a handle. -/
def State.setSegment (s : State) (h : Handle) (x : Option Segment) : State :=
  { s with store := { s.store with segments := s.store.segments.set h.val x } }

/-- A context, absent when FREE. -/
def State.context (s : State) (i : Context) : Option Playback := s.store.contexts[i.val]

/-- Replace a context. -/
def State.setContext (s : State) (i : Context) (x : Option Playback) : State :=
  { s with store := { s.store with contexts := s.store.contexts.set i.val x } }

/-- The stored profile of a number (R77). -/
def State.profile (s : State) (k : ProfileNo) : Profile := s.profiles[k.val]

/-- Set the state of a segment, if it exists (R150). -/
def State.setSegState (s : State) (h : Handle) (st : SegState) : State :=
  match s.segment h with
  | none => s
  | some g => s.setSegment h (some { g with state := st })

/-- Put rules in front of the act's agenda. -/
def State.push (s : State) (js : List Job) : State := { s with agenda := js ++ s.agenda }

/-! ### Event records (R123, R176) -/

/-- The Notice Builder takes an arriving record: it joins the FIFO, or is discarded and counted in
LOST (R123). -/
def Notices.arrive (nb : Notices) (r : Record) : Notices :=
  if nb.fifo.length < Config.fifoDepth then { nb with fifo := nb.fifo ++ [r] }
  else { nb with lost := satInc nb.lost }

/-- A block makes a record: it is handed on at once, or after the response when a request's execution
makes it (R176). -/
def State.record (s : State) (r : Record) : State :=
  match s.engine.records with
  | some l => { s with engine := { s.engine with records := some (l ++ [r]) } }
  | none => { s with notices := s.notices.arrive r }

/-- The records of the execution in progress are handed on (R176). -/
def State.handRecords (s : State) : State :=
  { s with notices := (s.engine.records.getD []).foldl Notices.arrive s.notices
           engine := { s.engine with records := none } }

/-! ### The Cell Pool -/

/-- Cells that a body of n bytes needs (R135). -/
def cellsFor (n : Nat) : Nat := (n + 31) / Config.cellBytes

/-- The free counts allow an ordinary claim (R137, the first two tests). -/
def Pool.ordinaryFits (p : Pool) (d k : Nat) : Bool :=
  k + (Config.reserveCells - p.mgmtCells) ≤ p.freeCells ∧
  d + (Config.reserveDescriptors - p.mgmtDescriptors) ≤ p.freeDescriptors

/-- Take d descriptors and k cells from the free counts. -/
def Pool.take (p : Pool) (d k : Nat) : Pool :=
  { p with freeCells := p.freeCells - k, freeDescriptors := p.freeDescriptors - d }

/-- A new ordinary claim (R137, R139): granted whole or refused whole. -/
def Pool.claimOrdinary (p : Pool) (d k : Nat) : Option Pool :=
  if d = 0 ∧ k = 0 then some p
  else if p.waiting = [] ∧ p.ordinaryFits d k then some (p.take d k)
  else none

/-- A management claim (R138); what it takes counts in the management holding (R136). -/
def Pool.claimManagement (p : Pool) (d k : Nat) : Option Pool :=
  if d ≤ p.freeDescriptors ∧ k ≤ p.freeCells then
    some { p.take d k with mgmtCells := p.mgmtCells + k, mgmtDescriptors := p.mgmtDescriptors + d }
  else none

/-- Return storage to the free counts, and out of the management holding where it stood there
(R141). -/
def Pool.put (p : Pool) (mgmt : Bool) (d k : Nat) : Pool :=
  let q := { p with freeCells := p.freeCells + k, freeDescriptors := p.freeDescriptors + d }
  if mgmt then
    { q with mgmtCells := q.mgmtCells - k, mgmtDescriptors := q.mgmtDescriptors - d }
  else q

/-- Storage is given back and the pool serves its waiting list next (R141). -/
def State.giveBack (s : State) (mgmt : Bool) (d k : Nat) : State :=
  { s with pool := s.pool.put mgmt d k }.push [.serve]

/-- A waiter leaves without a grant; if it stood at the head, the pool serves the list again
(R144). -/
def State.leaveWaiting (s : State) (who : Claimant) : State :=
  let atHead := (s.pool.waiting.head?.map Waiter.who) = some who
  let s' := { s with pool := { s.pool with waiting := s.pool.waiting.filter (fun w => w.who ≠ who) } }
  if atHead then s'.push [.serve] else s'

/-- A refused claimant joins the tail of the waiting list (R142). -/
def State.joinWaiting (s : State) (who : Claimant) (d k : Nat) : State :=
  { s with pool := { s.pool with
      waiting := s.pool.waiting ++ [{ who := who, descriptors := d, cells := k }] } }

/-! ### Credits (R51, R125, R126) -/

/-- Channel c's count in the credit table. -/
def State.credit (s : State) (c : Chan) : Nat := s.notices.credits[c.val]

/-- Every count of the table is 0. -/
def Notices.noCredit (nb : Notices) : Bool := nb.credits.toList.all (fun k => k = 0)

/-- The hold-off timer starts with the hold-off in force; 0 is EXPIRED at once (R126). -/
def HoldOff.start (holdOff : Byte) : HoldOff := if holdOff = 0 then .expired else .running holdOff

/-- One credit for channel c: the table's first starts the hold-off timer (R126). -/
def Notices.addCredit (nb : Notices) (c : Chan) : Notices :=
  { nb with credits := nb.credits.set c.val (nb.credits[c.val] + 1)
            timer := if nb.noCredit then HoldOff.start nb.holdOff else nb.timer }

/-- Channel c's count is set to 0; a table then all 0 stops the timer (R39, R126). -/
def Notices.clearCredit (nb : Notices) (c : Chan) : Notices :=
  let nb' := { nb with credits := nb.credits.set c.val 0 }
  { nb' with timer := if nb'.noCredit then .stopped else nb'.timer }

/-- A host parcel of channel c is counted off: outstanding falls by one and, with `credit`, one
unreported credit is released (R34, R59, R63). By R50 outstanding is at least 1 here (log 23). -/
def State.countOff (s : State) (c : Chan) (credit : Bool) : State :=
  match s.link c with
  | some l =>
    match l.dir with
    | .outbound limit (k + 1) =>
      let s' := s.setLink c (some { l with dir := .outbound limit k })
      if credit then { s' with notices := s'.notices.addCredit c } else s'
    | _ => s
  | none => s

/-! ### Channel counters (R22) -/

/-- One parcel of n bytes is counted in parcels and bytes. -/
def State.countParcel (s : State) (c : Chan) (n : Nat) : State :=
  let x := s.channel c
  s.setChannel c { x with parcels := x.parcels + 1, bytes := x.bytes + BitVec.ofNat 32 n }

/-- One drop is counted. -/
def State.countDrop (s : State) (c : Chan) : State :=
  let x := s.channel c
  s.setChannel c { x with drops := satInc x.drops }

/-- Add n to a count that stops at 255 (R34). -/
def satAdd (x : Byte) (n : Nat) : Byte := BitVec.ofNat 8 (min 255 (x.toNat + n))

/-- In a drain, raise the drained and the discarded counts (R34). -/
def State.countDrain (s : State) (c : Chan) (drained discarded : Nat) : State :=
  match s.link c with
  | some l =>
    match l.phase with
    | .draining m a b =>
      s.setLink c (some { l with phase := .draining m (satAdd a drained) (satAdd b discarded) })
    | _ => s
  | none => s

/-- Set a channel's phase (R23). -/
def State.setPhase (s : State) (c : Chan) (ph : Phase) : State :=
  match s.link c with
  | some l => s.setLink c (some { l with phase := ph })
  | none => s

end Sys2Proof.Machine
end

