-- ==== Sys2Proof/Machine/Operands.lean ====
section
/-! DEFINITION. How values cross the trunk: two-byte fields, the encodings of sections 2.3, 4.5, 4.8
and 8.2, notice records (R131, R132), responses (R170), and the reading of request parameters. -/

namespace Sys2Proof.Machine

/-! ### Bytes -/

/-- A number as one byte. -/
def byteOf (n : Nat) : Byte := BitVec.ofNat 8 n

/-- A number as two bytes, high byte first. -/
def twoBytes (n : Nat) : List Byte := [byteOf (n / 256), byteOf n]

/-- A number as four bytes, high byte first. -/
def fourBytes (n : Nat) : List Byte :=
  [byteOf (n / 16777216), byteOf (n / 65536), byteOf (n / 256), byteOf n]

/-- The number of two bytes, high byte first. -/
def wordOf (hi lo : Byte) : Nat := hi.toNat * 256 + lo.toNat

/-! ### Numbers of channels, handles, spurs and profiles -/

/-- The number of a channel, 1 to 47. -/
def chanNumber (c : Chan) : Nat := c.val + 1

/-- The channel a tag or parameter names, if it is 1 to 47. -/
def chanOf (b : Byte) : Option Chan :=
  if h : 1 ≤ b.toNat ∧ b.toNat ≤ 47 then some ⟨b.toNat - 1, by omega⟩ else none

/-- The number of a handle, 1 to 16. -/
def handleNumber (h : Handle) : Nat := h.val + 1

/-- The handle a parameter names, if it is 1 to 16. -/
def handleOf (b : Byte) : Option Handle :=
  if h : 1 ≤ b.toNat ∧ b.toNat ≤ 16 then some ⟨b.toNat - 1, by omega⟩ else none

/-- The spur a parameter names, if it is 0 to 3. -/
def spurOf (b : Byte) : Option Spur :=
  if h : b.toNat < 4 then some ⟨b.toNat, h⟩ else none

/-- The profile a parameter names, if it is 0 to 7. -/
def profileOf (b : Byte) : Option ProfileNo :=
  if h : b.toNat < 8 then some ⟨b.toNat, h⟩ else none

/-! ### Enumerations -/

/-- Two values of one byte: 0 is `zero`, 1 is `one`, any other is out of range. -/
def twoWay {α : Type} (b : Byte) (zero one : α) : Option α :=
  if b = 0 then some zero else if b = 1 then some one else none

/-- Discipline codes (section 4.5). -/
def Discipline.code : Discipline → Byte
  | .interlock => 0 | .gated => 1 | .paced => 2 | .toggle => 3

/-- The discipline of a code. -/
def disciplineOf (b : Byte) : Option Discipline :=
  if b = 0 then some .interlock else if b = 1 then some .gated
  else if b = 2 then some .paced else if b = 3 then some .toggle else none

/-- Direction codes of a spur (section 4.8). -/
def Facing.code : Facing → Byte | .outward => 0 | .inward => 1

/-- Attention codes (section 4.8). -/
def Attention.code : Attention → Byte | .honor => 0 | .ignore => 1

/-- Class codes (section 2.3). -/
def DataClass.code : DataClass → Byte | .normal => 0 | .express => 1

/-- Halt cause codes (section 2.3). -/
def HaltCause.code : HaltCause → Byte | .stall => 1 | .host => 2

/-- Close mode codes (section 2.3). -/
def CloseMode.code : CloseMode → Byte | .drain => 0 | .discard => 1

/-- Lane state codes (R95). -/
def LaneState.code : LaneState → Byte
  | .off => 0 | .idleOut => 1 | .sending => 2 | .turnIn => 3 | .idleIn => 4 | .receiving => 5
  | .turnOut => 6

/-- Segment state codes (section 8.2). -/
def SegState.code : SegState → Byte | .ready => 0 | .capturing => 1 | .playing => 2

/-- Status codes (section 9.1). -/
def Status.code : Status → Byte
  | .ok => 0 | .accepted => 1 | .malformed => 2 | .range => 3 | .state => 4 | .conflict => 5
  | .quota => 6 | .absent => 7 | .busy => 8 | .full => 9

/-- Drop reason codes (R132). -/
def DropReason.code : DropReason → Byte
  | .closed => 1 | .closing => 2 | .direction => 3 | .overdrawn => 4 | .check => 5 | .truncated => 6
  | .length => 7 | .noroom => 8

/-- Playback end codes (R132). -/
def PlayReason.code : PlayReason → Byte | .done => 1 | .stopped => 2 | .closed => 3

/-- Reset kind codes (R188). -/
def ResetKind.code : ResetKind → Byte | .line => 1 | .restart => 2

/-! ### Notice records (R131, R132) -/

/-- The four bytes of a record: kind, channel or handle, detail high, detail low. -/
def Record.bytes : Record → List Byte
  | .started k => [1, 0, 0, k.code]
  | .credit c n => [2, byteOf (chanNumber c), 0, byteOf n]
  | .drop c r => [3, byteOf (chanNumber c), 0, r.code]
  | .stall c n => [4, byteOf (chanNumber c), 0, byteOf n]
  | .overrun c n => [5, byteOf (chanNumber c), 0, byteOf n]
  | .shut c a b => [6, byteOf (chanNumber c), a, b]
  | .capfull h n => [7, byteOf (handleNumber h), 0, byteOf n]
  | .playend c h r => [8, byteOf (chanNumber c), byteOf (handleNumber h), r.code]
  | .brk => [9, 0, 0, 0]
  | .loss n => [10, 0, 0, n]
  | .reqlost code seq => [11, 0, seq, code]

/-! ### Responses (R170) -/

/-- A response body. -/
def Answer.bytes (a : Answer) : List Byte := a.code :: a.seq :: a.status.code :: a.results

/-! ### Profiles and spur configurations as parameters and results -/

/-- The seven bytes of a profile after its number (R77, R78). -/
def Profile.bytes (p : Profile) : List Byte :=
  [p.discipline.code, p.setup, p.strobe] ++ twoBytes p.pacing.toNat ++ twoBytes p.ackLimit.toNat

/-- The five bytes of a spur configuration (R93, R95). -/
def SpurConfig.bytes (c : SpurConfig) : List Byte :=
  [if c.enable then 1 else 0, c.home.code, c.guard, c.attention.code, c.yield]

/-- Read a profile's fields, in range (R77). -/
def readProfileFields (disc setup strobe pHi pLo aHi aLo : Byte) : Option Profile :=
  match disciplineOf disc with
  | none => none
  | some d =>
    if strobe = 0 ∨ wordOf pHi pLo = 0 then none
    else some { discipline := d, setup := setup, strobe := strobe,
                pacing := BitVec.ofNat 16 (wordOf pHi pLo),
                ackLimit := BitVec.ofNat 16 (wordOf aHi aLo) }

/-- Read a spur configuration's fields, in range (R93). -/
def readSpurConfig (enable home guard attention yield : Byte) : Option SpurConfig :=
  match twoWay enable false true, twoWay home Facing.outward .inward,
    twoWay attention Attention.honor .ignore with
  | some e, some h, some a =>
    if guard = 0 ∨ yield = 0 then none
    else some { enable := e, home := h, guard := guard, attention := a, yield := yield }
  | _, _, _ => none

/-! ### Channel fields (section 2.3) -/

/-- Terminator mode and byte (section 2.3). -/
def terminatorBytes : Option Terminator → List Byte
  | none => [0, 0]
  | some t => [if t.keep then 2 else 1, t.byte]

/-- An optional field whose absence is the byte `absent`. -/
def optByte (absent : Byte) : Option Byte → Byte
  | none => absent
  | some b => b

/-- The tee's handle, 0 when absent (section 2.3). -/
def teeByte : Option Handle → Byte
  | none => 0
  | some h => byteOf (handleNumber h)

/-- Read the direction and its settings from OPEN CHANNEL's parameters: only the fields of that
direction are examined (R25, R27). -/
def readDirection (dir limit count mode term gap cls : Byte) : Option Direction :=
  if dir = 0 then
    if 1 ≤ limit.toNat ∧ limit.toNat ≤ 15 then some (.outbound limit.toNat 0) else none
  else if dir = 1 then
    if 1 ≤ count.toNat ∧ count.toNat ≤ 240 ∧ mode.toNat ≤ 2 then
      match twoWay cls DataClass.normal .express with
      | none => none
      | some k => some (.inbound
          { gatherCount := count.toNat
            terminator := if mode = 0 then none else some { byte := term, keep := mode = 2 }
            idleGap := if gap = 0 then none else some gap
            cls := k })
    else none
  else none

/-- Read a tee field: 0 is no tee, 1 to 16 a handle, any other out of range (section 2.3). -/
def readTee (b : Byte) : Option (Option Handle) :=
  if b = 0 then some none else (handleOf b).map some

end Sys2Proof.Machine
end

