-- ==== Sys2Proof/Machine/Flags.lean ====
section
/-! DEFINITION. The conditions the rules test: which channel uses a spur and in what state, whether
outbound work waits, whether the attention line holds a lane, whether the notice claimant is
eligible. -/

namespace Sys2Proof.Machine

/-! ### Channels -/

/-- The link is an IN channel's. -/
def Link.isIn (l : Link) : Bool := match l.dir with | .inbound _ => true | .outbound _ _ => false

/-- The link's state is OPEN. -/
def Link.isOpen (l : Link) : Bool := match l.phase with | .opened => true | _ => false

/-- The link's state is DRAINING. -/
def Link.isDraining (l : Link) : Bool := match l.phase with | .draining _ _ _ => true | _ => false

/-- All channels, in channel order. -/
def allChans : List Chan := List.finRange 47

/-- The IN channel that is not CLOSED and uses spur n (R26). -/
def State.inChan (s : State) (n : Spur) : Option Chan :=
  allChans.find? fun c =>
    match s.link c with
    | some l => decide (l.spur = n) && l.isIn
    | none => false

/-- The OPEN IN channel on spur n (R71). -/
def State.openIn (s : State) (n : Spur) : Option Chan :=
  match s.inChan n with
  | none => none
  | some c =>
    match s.link c with
    | some l => if l.isOpen then some c else none
    | none => none

/-- The settings of an IN channel. -/
def State.inSettings (s : State) (c : Chan) : Option InSettings :=
  match s.link c with
  | some l => (match l.dir with | .inbound k => some k | .outbound _ _ => none)
  | none => none

/-- The byte is the channel's terminator, kept or dropped (R104). -/
def InSettings.ends (k : InSettings) (b : Byte) : Bool :=
  match k.terminator with | some t => decide (t.byte = b) | none => false

/-- The byte is a terminator that is not part of the body (R98 case 2). -/
def InSettings.drops (k : InSettings) (b : Byte) : Bool :=
  match k.terminator with | some t => decide (t.byte = b) && !t.keep | none => false

/-- Channel c is OPEN. -/
def State.chanOpen (s : State) (c : Chan) : Bool :=
  match s.link c with | some l => l.isOpen | none => false

/-- Some channel that is not CLOSED uses spur n (R93). -/
def State.spurUsed (s : State) (n : Spur) : Bool :=
  allChans.any fun c => match s.link c with | some l => decide (l.spur = n) | none => false

/-- The credit limits of the non-CLOSED OUT channels on spur n, added (R26). -/
def State.creditSum (s : State) (n : Spur) : Nat :=
  (allChans.map fun c =>
    match s.link c with
    | some l =>
      if l.spur = n then (match l.dir with | .outbound limit _ => limit | .inbound _ => 0) else 0
    | none => 0).sum

/-- The count of channels not CLOSED (R184). -/
def State.notClosed (s : State) : Nat := (allChans.filter fun c => (s.link c).isSome).length

/-- The context that targets channel c. -/
def State.contextOf (s : State) (c : Chan) : Option Context :=
  (List.finRange 4).find? fun i =>
    match s.context i with | some p => decide (p.chan = c) | none => false

/-- The context on spur n (R159). -/
def State.contextOn (s : State) (n : Spur) : Option Context :=
  (List.finRange 4).find? fun i =>
    match s.context i with | some p => decide (p.spur = n) | none => false

/-! ### Outbound work (R54) -/

/-- An entry is serviceable when its channel is OPEN or DRAINING (R54). -/
def State.serviceable (s : State) (e : Outbound) : Bool :=
  match s.link e.chan with
  | some l => l.isOpen || l.isDraining
  | none => false

/-- Spur n has outbound work waiting (R54). -/
def State.outWork (s : State) (n : Spur) : Bool := (s.queue n).any s.serviceable

/-- The oldest entry that a test picks, and the others in their order (R55). -/
def takeFirst (test : Outbound → Bool) : List Outbound → Option (Outbound × List Outbound)
  | [] => none
  | e :: rest =>
    if test e then some (e, rest)
    else match takeFirst test rest with
      | none => none
      | some (x, others) => some (x, e :: others)

/-! ### Lanes -/

/-- SnDIR stands at IN (table of R67). -/
def LaneState.dirIn : LaneState → Bool
  | .off | .turnIn | .idleIn | .receiving => true
  | .turnOut | .idleOut | .sending => false

/-- The level of SnDIR as READ SPUR reports it: 0 OUT, 1 IN (R95). -/
def LaneState.dirCode (l : LaneState) : Byte := if l.dirIn then 1 else 0

/-- The lane faces inward for the yield timer (R75). -/
def LaneState.inward : LaneState → Bool
  | .turnIn | .idleIn | .receiving => true
  | _ => false

/-- An asserted, honoured attention for an OPEN IN channel (R72 case 1, R73 case 3). -/
def State.attentionHeard (s : State) (n : Spur) : Bool :=
  (s.lane n).atn && decide ((s.lane n).config.attention = .honor) && (s.openIn n).isSome

/-- The gather is FILLING or LOSING (R71). -/
def Gather.isPartial (g : Gather) : Bool := match g.state with | .empty => false | _ => true

/-- The byte count of a gather (R97). -/
def Gather.count (g : Gather) : Nat :=
  match g.state with | .empty => 0 | .filling _ _ bs => bs.length | .losing k => k

/-! ### Segments -/

/-- The cells a segment holds (R148). -/
def Segment.cellsHeld (g : Segment) : Nat := (g.entries.map fun e => cellsFor e.length).sum

/-- The bytes a segment holds (R148). -/
def Segment.totalBytes (g : Segment) : Nat := (g.entries.map List.length).sum

/-! ### Notices -/

/-- The count of a channel that triggers a notice: half its credit limit, rounded up (R125). -/
def halfLimit (limit : Nat) : Nat := (limit + 1) / 2

/-- Some channel's count has reached its half limit (R127). -/
def State.halfReached (s : State) : Bool :=
  allChans.any fun c =>
    match s.link c with
    | some l =>
      (match l.dir with
       | .outbound limit _ => decide (0 < s.credit c) && decide (halfLimit limit ≤ s.credit c)
       | .inbound _ => false)
    | none => false

/-- The notice claimant is eligible (R127). -/
def State.eligible (s : State) : Bool :=
  s.notices.fifo ≠ [] || s.notices.lost ≠ 0 ||
  (!s.notices.noCredit && (s.halfReached || s.notices.timer = .expired))

end Sys2Proof.Machine
end

