-- ==== Sys2Proof/Machine/Segments.lean ====
section
/-! DEFINITION. The Segment Store (08_the_segment_store.md): appends, capture through the tee, and the
playback contexts. -/

namespace Sys2Proof.Machine

/-! ### Appends and capture -/

/-- The four tests of an append, and the append (R148, R149). -/
def append (h : Handle) (body : List Byte) (s : State) : Option State :=
  match s.segment h with
  | none => none
  | some g =>
    let k := cellsFor body.length
    if g.entries.length < Config.segmentEntries ∧ g.cellsHeld + k ≤ g.cellLimit ∧
        s.pool.segmentCells + k ≤ s.store.quota then
      match s.pool.claimOrdinary 0 k with
      | none => none
      | some p =>
        some ({ s with pool := { p with segmentCells := p.segmentCells + k } }.setSegment h
          (some { g with entries := g.entries ++ [body] }))
    else none

/-- Channel c's tee becomes h (R42). -/
def State.setTee (s : State) (c : Chan) (h : Option Handle) : State :=
  match s.link c with
  | none => s
  | some l => s.setLink c (some { l with tee := h })

/-- The capture does not fit: the tee is unbound, the segment READY, and a CAPFULL record made
(R158). -/
def captureFull (c : Chan) (h : Handle) (s : State) : State :=
  let entries := match s.segment h with | none => 0 | some g => g.entries.length
  ((s.setTee c none).setSegState h .ready).record (.capfull h entries)

/-- A parcel of channel c is offered to the channel's tee, if it has one (R47, R157). -/
def capture (c : Chan) (body : List Byte) (s : State) : State :=
  match s.link c with
  | none => s
  | some l =>
    match l.tee with
    | none => s
    | some h =>
      match append h body s with
      | some s' => s'
      | none => captureFull c h s

/-- Step 3 of entry to DRAINING (R31): the tee becomes absent and its segment READY. -/
def dropTee (c : Chan) (s : State) : State :=
  match s.link c with
  | none => s
  | some l =>
    match l.tee with
    | none => s
    | some h => (s.setTee c none).setSegState h .ready

/-! ### Playback -/

/-- The entry a context emits next (R163). -/
def State.nextEntry (s : State) (p : Playback) : Option (List Byte) :=
  match s.segment p.handle with
  | none => none
  | some g => g.entries[p.next - 1]?

/-- Step 5 of an emission: index, repeats and phase (R163). -/
def Playback.advance (p : Playback) (entries : Nat) : Playback :=
  if p.next + 1 ≤ entries then { p with next := p.next + 1, phase := .active }
  else match p.repeats with
    | none => { p with next := 1, phase := .active }
    | some r =>
      if 1 < r then { p with next := 1, repeats := some (r - 1), phase := .active }
      else { p with next := entries + 1, repeats := some 0, phase := .ending }

/-- Emission into storage already claimed (R163); with spacing 0 the timer is ELAPSED at once, so the
conditions are tested again (R161, R162). -/
def emit (i : Context) (s : State) : State :=
  match s.context i with
  | none => s
  | some p =>
    match s.segment p.handle, s.nextEntry p with
    | some g, some body =>
      let p1 := p.advance g.entries.length
      let p2 := { p1 with count := p.count + 1
                          timer := if p.spacing = 0 then .elapsed else .running }
      let s1 := (s.setQueue p.spur
        (s.queue p.spur ++ [{ chan := p.chan, origin := .playback (some i), body := body }])
        ).setContext i (some p2)
      s1.push (if p.spacing = 0 then [.testContext i, .work p.spur] else [.work p.spur])
    | _, _ => s

/-- An ACTIVE context tests its emission conditions: it emits, or waits for the pool (R162). -/
def testContext (i : Context) (s : State) : State :=
  match s.context i with
  | none => s
  | some p =>
    if p.phase = .active ∧ p.count < 2 ∧ p.timer = .elapsed ∧ s.chanOpen p.chan = true then
      match s.nextEntry p with
      | none => s
      | some body =>
        match s.pool.claimOrdinary 1 (cellsFor body.length) with
        | some pool => emit i { s with pool := pool }
        | none =>
          (s.setContext i (some { p with phase := .waiting })).joinWaiting (.context i) 1
            (cellsFor body.length)
    else s

/-- A context ends with DONE (R164). -/
def endDone (i : Context) (p : Playback) (s : State) : State :=
  ((s.record (.playend p.chan p.handle .done)).setSegState p.handle .ready).setContext i none

/-- A context is told that one of its parcels has left the lane (R60, R63, R164). -/
def tellContext (i : Context) (s : State) : State :=
  match s.context i with
  | none => s
  | some p =>
    let p1 := { p with count := p.count - 1 }
    let s1 := s.setContext i (some p1)
    match p.phase with
    | .active => s1.push [.testContext i]
    | .ending => if p1.count = 0 then endDone i p1 s1 else s1
    | .waiting | .paused => s1

/-- The context of a channel that became HALTED (R165). -/
def pauseContext (c : Chan) (s : State) : State :=
  match s.contextOf c with
  | none => s
  | some i =>
    match s.context i with
    | none => s
    | some p =>
      match p.phase with
      | .active => s.setContext i (some { p with phase := .paused })
      | .waiting =>
        (s.setContext i (some { p with phase := .paused })).leaveWaiting (.context i)
      | .paused | .ending => s

/-- The context of a channel that became OPEN again (R165). -/
def resumeContext (c : Chan) (s : State) : State :=
  match s.contextOf c with
  | none => s
  | some i =>
    match s.context i with
    | none => s
    | some p =>
      match p.phase with
      | .paused => (s.setContext i (some { p with phase := .active })).push [.testContext i]
      | .active | .waiting | .ending => s

/-- A parcel of context i is told to no context once the context has ended (R60, R61). -/
def Outbound.orphan (i : Context) (e : Outbound) : Outbound :=
  if e.origin = .playback (some i) then { e with origin := .playback none } else e

/-- The parcels that context i leaves on its spur are told to no context (R61, R167). -/
def State.orphan (s : State) (n : Spur) (i : Context) : State :=
  let l := s.lane n
  let s1 := s.setQueue n ((s.queue n).map (Outbound.orphan i))
  match l.sending with
  | none => s1
  | some x => s1.setLane n { l with sending := some { x with parcel := x.parcel.orphan i } }

/-- A context becomes FREE with its segment READY, its parcels are told to no context, and a PLAYEND
record is made (R166 steps 3 to 5, R167 steps 2 to 4). -/
def freeContext (i : Context) (r : PlayReason) (s : State) : State :=
  match s.context i with
  | none => s
  | some p =>
    (((s.orphan p.spur i).setSegState p.handle .ready).setContext i none).record
      (.playend p.chan p.handle r)

/-- Context i ends by a command: it leaves the waiting list first, where the pool serves the list from
a new head at once (R144), and the other steps follow. -/
def State.endPlayback (s : State) (i : Context) (steps : List Job) : State :=
  (s.push steps).leaveWaiting (.context i)

/-- Step 4 of entry to DRAINING: the context that targets the channel ends (R167). -/
def endContext (c : Chan) (s : State) : State :=
  match s.contextOf c with
  | none => s
  | some i => s.endPlayback i [.freeContext i .closed]

/-- Step 2 of STOP PLAY (R65, R166): the parcels of context i that still stand in the spur's queue are
removed, held or not, and their storage is given back. -/
def removePlayback (i : Context) (s : State) : State :=
  match s.context i with
  | none => s
  | some p =>
    let q := s.queue p.spur
    let gone := q.filter fun e => e.origin = .playback (some i)
    ((s.setQueue p.spur (q.filter fun e => e.origin ≠ .playback (some i))).push
      [.work p.spur]).giveBack false gone.length
      ((gone.map fun e => cellsFor e.body.length).sum)

/-- The spacing timer of a context becomes ELAPSED (R161). -/
def spacingElapsed (i : Context) (s : State) : State :=
  match s.context i with
  | none => s
  | some p =>
    match p.timer with
    | .running => (s.setContext i (some { p with timer := .elapsed })).push [.testContext i]
    | .elapsed => s

end Sys2Proof.Machine
end

