-- ==== Sys2Proof/Machine/Lanes.lean ====
section
/-! DEFINITION. The Spur Lane Engines (04_spur_lanes_and_disciplines.md) and what they do with the
Spur Queues (03) and the Gather Units (05): direction decisions, outbound beats, completion and
stall, inbound beats, gathering and closure. -/

namespace Sys2Proof.Machine

/-! ### Lane updates -/

/-- The yield timer follows its two conditions: outbound work waits and the lane faces inward (R75).
A due yield keeps it stopped. -/
def syncYield (n : Spur) (s : State) : State :=
  let l := s.lane n
  if s.outWork n && l.state.inward then
    if l.yieldTimer = none ∧ l.yieldDue = false then
      s.setLane n { l with yieldTimer := some l.config.yield }
    else s
  else s.setLane n { l with yieldTimer := none }

/-- The outbound-work condition of spur n may have changed: the yield timer follows, and a change makes
an idle lane decide again (R54, R71, R75). -/
def work (n : Spur) (s : State) : State :=
  let s1 := syncYield n s
  let l := s1.lane n
  if s1.outWork n = l.workSeen then s1
  else (s1.setLane n { l with workSeen := s1.outWork n }).push [.decide n]

/-- The lane enters an idle state, where it decides on its inputs as they stand (R71). -/
def enterIdle (n : Spur) (st : LaneState) (s : State) : State :=
  s.setLane n { s.lane n with state := st, workSeen := s.outWork n }

/-- The lane stops taking beats (R74): the offer is withdrawn, the PACED schedule ends, the snapshot is
dropped (R79); a TOGGLE level stays. -/
def stopTaking (n : Spur) (s : State) : State :=
  let l := s.lane n
  s.setLane n { l with inSnap := none, offer := false, pulses := .none
                       strobe := if l.offer then false else l.strobe }

/-- The lane turns in (R68). -/
def turnIn (n : Spur) (s : State) : State :=
  let l := s.lane n
  syncYield n (s.setLane n { l with state := .turnIn, strobe := false, drive := none
                                    guardTimer := some l.config.guard })

/-- The lane stops taking beats and turns out (R69, R74). -/
def turnOut (n : Spur) (s : State) : State :=
  let s1 := stopTaking n s
  let l := s1.lane n
  syncYield n (s1.setLane n { l with state := .turnOut, strobe := false, drive := none
                                     guardTimer := some l.config.guard })

/-! ### Completion and stall of an outbound parcel -/

/-- The context that is told of a parcel's leaving (R53). -/
def tellJobs (e : Outbound) : List Job :=
  match e.origin with
  | .playback (some i) => [.tellContext i]
  | .playback none => []
  | .host => []

/-- The parcel is an entry of an endless playback with spacing 0, whose zero-length entries would
complete and be emitted again without end in no time (R58, R163). -/
def State.endless (s : State) (e : Outbound) : Bool :=
  match e.origin with
  | .playback (some i) =>
    (match s.context i with | some p => p.repeats.isNone && decide (p.spacing = 0) | none => false)
  | _ => false

/-- Put a rule behind everything else the act has to do (log 2). -/
def State.later (s : State) (j : Job) : State := { s with agenda := s.agenda ++ [j] }

/-- A parcel completes on the lane (R59, R60), with all its effects; in a drain it counts as drained
(R34). The lane then makes its end-of-parcel decision. After a zero-length entry of an endless unspaced
playback that decision alone is put behind the rest of the act, so that the act does all the rest
(log 2). -/
def completeParcel (n : Spur) (e : Outbound) (s : State) : State :=
  let s1 := s.setLane n { s.lane n with sending := none }
  let s2 := if e.origin = .host then s1.countOff e.chan true else s1
  let s3 := (s2.countParcel e.chan e.body.length).countDrain e.chan 1 0
  let s4 := if e.body = [] ∧ s.endless e = true then s3.later (.parcelEndLater n)
    else s3.push [.parcelEnd n]
  (s4.push (tellJobs e ++ [.drainTest e.chan])).giveBack false 1 (cellsFor e.body.length)

/-- The channel's queued parcels are removed (R33, R35, R65): their storage is given back and each is
counted as discarded in the drain. -/
def discardQueued (c : Chan) (s : State) : State :=
  match s.link c with
  | none => s
  | some l =>
    let q := s.queue l.spur
    let gone := q.filter fun e => e.chan = c
    let hosts := (gone.filter fun e => e.origin = .host).length
    let s1 := s.setQueue l.spur (q.filter fun e => e.chan ≠ c)
    let s2 := (List.replicate hosts ()).foldl (fun t _ => t.countOff c false) s1
    ((s2.countDrain c 0 gone.length).push [.work l.spur]).giveBack false gone.length
      ((gone.map fun e => cellsFor e.body.length).sum)

/-- The Channel Map acts on an outbound stall (R24, R35, R63); `playback` parcels change no credit. -/
def outboundStallChannel (e : Outbound) (s : State) : State :=
  let host := decide (e.origin = .host)
  match s.link e.chan with
  | none => s
  | some l =>
    match l.phase with
    | .draining _ a b =>
      let s1 := s.setPhase e.chan (.draining .discard a b)
      let s2 := if host then s1.countOff e.chan false else s1
      (s2.countDrain e.chan 0 1).push [.discardQueued e.chan, .drainTest e.chan]
    | .opened | .halted _ =>
      let s1 := s.setPhase e.chan (.halted .stall)
      let s2 := if host then s1.countOff e.chan true else s1
      s2.push (tellJobs e ++ [.pauseContext e.chan, .work l.spur])

/-- The beat of the parcel on the lane stalls (R62, R85): the strobe of a pulse or offer is
deasserted, the parcel abandoned, and the STALL record made. -/
def outboundStall (n : Spur) (x : Sending) (s : State) : State :=
  let l := s.lane n
  let s1 := s.setLane n { l with
    sending := none
    strobe := if x.snap.discipline = .toggle then l.strobe else false
    reference := if x.snap.discipline = .toggle then none else l.reference }
  let s2 := s1.record (.stall x.parcel.chan x.done)
  (outboundStallChannel x.parcel (s2.push [.parcelEnd n])).giveBack false 1
    (cellsFor x.parcel.body.length)

/-! ### Outbound beats -/

/-- Replace the parcel on the lane's beat. -/
def State.setSending (s : State) (n : Spur) (x : Sending) : State :=
  s.setLane n { s.lane n with sending := some x }

/-- The strobe action after the setup time (R81 to R84). -/
def strobeAction (n : Spur) (x : Sending) (s : State) : State :=
  let l := s.lane n
  match x.snap.discipline with
  | .interlock =>
    if l.ready then
      s.setLane n { l with strobe := true, sending := some { x with phase := .waitBusy } }
    else s.setLane n { l with strobe := false, sending := some { x with phase := .waitReturn } }
  | .gated => s.setLane n { l with strobe := true, sending := some { x with phase := .strobe } }
  | .paced =>
    s.setLane n { l with strobe := true, sending := some { x with phase := .pulse true true } }
  | .toggle =>
    s.setLane n { l with strobe := !l.strobe, reference := some l.ready
                         sending := some { x with phase := .waitToggle } }

/-- The byte of the beat in progress. -/
def Sending.byte (x : Sending) : Byte := x.parcel.body.getD x.done 0

/-- The lane drives the byte and waits the setup time; 0 is no wait (R80). GATED stops its ack-limit
timer here, when READY has been seen (R82). -/
def presentByte (n : Spur) (x : Sending) (s : State) : State :=
  let x1 := if x.snap.discipline = .gated then { x with ackTimer := none } else x
  let s1 := s.setLane n { s.lane n with
    drive := some x.byte, sending := some { x1 with phase := .setup } }
  if x.snap.setup = 0 then strobeAction n x1 s1 else s1

/-- An outbound beat begins (R80): its ack-limit timer starts, and it waits for READY or presents its
byte at once. A PACED beat runs no ack limit (R83). -/
def beginBeat (n : Spur) (x : Sending) (s : State) : State :=
  let limited := x.snap.ackLimit ≠ 0 ∧ x.snap.discipline ≠ .paced
  let x1 := { x with phase := .waitReady, ackTimer := if limited then some x.snap.ackLimit else none }
  match x.snap.discipline with
  | .interlock | .gated =>
    if (s.lane n).ready then presentByte n x1 s else s.setSending n x1
  | .paced | .toggle => presentByte n x1 s

/-- The first beat of a parcel deasserts a strobe that a TOGGLE parcel left asserted, unless the parcel
is TOGGLE itself (R80). -/
def firstBeat (n : Spur) (x : Sending) (s : State) : State :=
  let l := s.lane n
  let strobe := if x.snap.discipline = .toggle then l.strobe else false
  beginBeat n x (s.setLane n { l with strobe := strobe })

/-- A beat completes: the next begins, or the parcel completes (R57). A TOGGLE reference is not kept
beyond its beat (R84). -/
def beatComplete (n : Spur) (x : Sending) (s : State) : State :=
  let l := s.lane n
  let s1 := s.setLane n { l with
    reference := if x.snap.discipline = .toggle then none else l.reference }
  let x1 := { x with done := x.done + 1, ackTimer := none }
  if x1.done < x.parcel.body.length then beginBeat n x1 s1 else completeParcel n x.parcel s1

/-- A selected parcel starts on the lane under a snapshot of its channel's profile (R56); one of length
0 completes at once (R58). -/
def startParcel (n : Spur) (e : Outbound) (s : State) : State :=
  let snap := match s.link e.chan with | some l => s.profile l.profile | none => Profile.default
  let s1 := s.setLane n { s.lane n with state := .sending }
  if e.body = [] then completeParcel n e s1
  else firstBeat n { parcel := e, snap := snap, done := 0, phase := .waitReady, ackTimer := none } s1

/-! ### Direction decisions -/

/-- The decision of IDLE_OUT and of a parcel's end (R72). -/
def decideOut (n : Spur) (s : State) : State :=
  let l := s.lane n
  if s.attentionHeard n && !l.yieldOwed then turnIn n s
  else
    let s1 := s.setLane n { l with yieldOwed := false }
    match takeFirst s1.serviceable (s1.queue n) with
    | some (e, rest) =>
      let s2 := s1.setQueue n rest
      startParcel n e (s2.setLane n { s2.lane n with workSeen := s2.outWork n })
    | none => if l.config.home = .inward then turnIn n s1 else s1

/-- The decision of IDLE_IN (R73). -/
def decideIn (n : Spur) (s : State) : State :=
  let l := s.lane n
  if l.yieldDue then
    if (s.gather n).isPartial then s.push [.closeGather n .yield, .yieldOut n] else s.push [.yieldOut n]
  else if (s.gather n).isPartial then s
  else if s.outWork n && !s.attentionHeard n then turnOut n s
  else if l.config.home = .outward ∧ s.openIn n = none then turnOut n s
  else s

/-- The lane decides, if it stands in an idle state (R71). -/
def decideLane (n : Spur) (s : State) : State :=
  match (s.lane n).state with
  | .idleOut => decideOut n s
  | .idleIn => decideIn n s
  | _ => s

/-- The lane stops taking beats and turns out for a due yield (R76 steps 2 and 3). -/
def yieldOut (n : Spur) (s : State) : State :=
  let l := s.lane n
  if l.state = .idleIn ∧ l.yieldDue = true then
    let s1 := stopTaking n s
    turnOut n (s1.setLane n { s1.lane n with yieldDue := false, yieldOwed := true })
  else s

/-- The end of a parcel: the lane enters IDLE_OUT and decides (R72). -/
def parcelEnd (n : Spur) (s : State) : State :=
  let l := s.lane n
  if l.state = .sending ∧ l.sending = none then decideOut n (enterIdle n .idleOut s) else s

/-! ### Gathering -/

/-- Replace the gather's state. -/
def State.setGatherState (s : State) (n : Spur) (g : GatherState) : State :=
  s.setGather n { s.gather n with state := g }

/-- What the Gather Unit does with a byte at the latch: the state after, whether the byte belongs to a
gather (so that the beat's end tests it), and whether it waits for the pool. -/
structure Taken where
  state : State
  tests : Bool
  waits : Bool

/-- A refused claim (R101, R102): under backpressure the byte waits on the pool's list; under a lossy
discipline the gather gives back its storage and becomes LOSING with `count` bytes. -/
def refusedByte (n : Spur) (b : HeldByte) (d k count : Nat) (s : State) : Taken :=
  let g := s.gather n
  if g.lossy then
    let s1 := s.setGatherState n (.losing count)
    match g.state with
    | .filling _ _ bs =>
      { state := s1.giveBack false 1 (cellsFor bs.length), tests := true, waits := false }
    | _ => { state := s1, tests := true, waits := false }
  else
    { state := (s.setGather n { g with waiting := some b }).joinWaiting (.gather n) d k
      tests := true, waits := true }

/-- The unit judges a latched byte of the OPEN IN channel c (R98 to R100, R103). -/
def gatherByte (n : Spur) (c : Chan) (k : InSettings) (b : Byte) (s : State) : Taken :=
  let term := k.drops b
  let held : HeldByte := { byte := b, term := term }
  match (s.gather n).state with
  | .empty =>
    let cells := if term then 0 else 1
    match s.pool.claimOrdinary 1 cells with
    | some p =>
      { state := { s with pool := p }.setGatherState n
          (.filling c k.cls (if term then [] else [b]))
        tests := true, waits := false }
    | none => refusedByte n held 1 cells (if term then 0 else 1) s
  | .filling c' cls bs =>
    if term then { state := s, tests := true, waits := false }
    else if bs.length % Config.cellBytes = 0 then
      match s.pool.claimOrdinary 0 1 with
      | some p =>
        { state := { s with pool := p }.setGatherState n (.filling c' cls (bs ++ [b]))
          tests := true, waits := false }
      | none => refusedByte n held 0 1 (bs.length + 1) s
    else
      { state := s.setGatherState n (.filling c' cls (bs ++ [b])), tests := true, waits := false }
  | .losing k' =>
    { state := if term then s else s.setGatherState n (.losing (k' + 1))
      tests := true, waits := false }

/-- The lane hands a latched byte to the unit (R86, R98): without an OPEN IN channel it is dropped. -/
def handByte (n : Spur) (b : Byte) (s : State) : Taken :=
  match s.openIn n with
  | none => { state := s, tests := false, waits := false }
  | some c =>
    match s.inSettings c with
    | none => { state := s, tests := false, waits := false }
    | some k => gatherByte n c k b s

/-- The byte is the terminator of the OPEN IN channel on spur n, kept or dropped (R104). -/
def isTerminator (n : Spur) (b : Byte) (s : State) : Bool :=
  match s.openIn n with
  | none => false
  | some c =>
    match s.inSettings c with
    | none => false
    | some k => k.ends b

/-- The pool has granted the waiting byte of spur n (R101, R143): it is stored, or taken as a dropped
terminator, and reported to the lane. -/
def grantedByte (n : Spur) (s : State) : State :=
  let g := s.gather n
  match g.waiting with
  | none => s
  | some b =>
    let st := match g.state with
      | .empty =>
        (match s.inChan n with
         | some c =>
           (match s.inSettings c with
            | some k => .filling c k.cls (if b.term then [] else [b.byte])
            | none => .empty)
         | none => .empty)
      | .filling c cls bs => .filling c cls (if b.term then bs else bs ++ [b.byte])
      | .losing k => .losing k
    (s.setGather n { g with state := st, waiting := none }).push [.acknowledge n]

/-- The data queue a gathered parcel joins (R111 step 3): its class's, unless the other still holds a
parcel of the channel. -/
def Arbiter.join (a : Arbiter) (cls : DataClass) (x : Inbound) : Arbiter :=
  let inExpress := a.express.any fun y => y.chan = x.chan
  let inNormal := a.normal.any fun y => y.chan = x.chan
  let toExpress := match cls with | .express => !inNormal | .normal => inExpress
  if toExpress then { a with express := a.express ++ [x] }
  else { a with normal := a.normal ++ [x] }

/-- In a drain that closes the gather, one parcel counts as drained or as discarded (R114). -/
def State.countClose (s : State) (c : Chan) (closure : Closure) (drained discarded : Nat) : State :=
  if closure = .close then s.countDrain c drained discarded else s

/-- A FILLING gather becomes a parcel (R111), or is lost to full data queues (R112). -/
def forwardGather (n : Spur) (c : Chan) (cls : DataClass) (bs : List Byte) (closure : Closure)
    (s : State) : State :=
  let s1 := (capture c bs s).setGatherState n .empty
  if s1.arbiter.express.length + s1.arbiter.normal.length < Config.dataQueueDepth then
    (({ s1 with arbiter := s1.arbiter.join cls { chan := c, body := bs } }.countParcel c
      bs.length).countClose c closure 1 0)
  else
    ((((s1.record (.overrun c bs.length)).countDrop c).countClose c closure 0 1)).giveBack false 1
      (cellsFor bs.length)

/-- The gather closes (R111 to R113): FILLING bytes become a parcel, LOSING makes an OVERRUN record,
and a FILLING gather with no byte gives nothing but for TERMINATOR. The snapshot is then taken again
(R79). -/
def closeGather (n : Spur) (closure : Closure) (s : State) : State :=
  let s0 := (s.setGather n { s.gather n with idleTimer := none }).push [.retake n]
  match (s.gather n).state with
  | .empty => s0
  | .filling c cls bs =>
    if bs = [] ∧ closure ≠ .terminator then (s0.setGatherState n .empty).giveBack false 1 0
    else forwardGather n c cls bs closure s0
  | .losing k =>
    match s.inChan n with
    | none => s0.setGatherState n .empty
    | some c =>
      ((((s0.setGatherState n .empty).record (.overrun c k)).countDrop c).countClose c closure 0 1)

/-- Step 2 of entry to DRAINING under DISCARD (R109): the gather is dropped; it counts as discarded if
it held a byte. -/
def dropGather (n : Spur) (s : State) : State :=
  let g := s.gather n
  let s0 := s.setGather n { g with state := .empty, idleTimer := none }
  let s1 := match s.inChan n with
    | some c => if 0 < g.count then s0.countDrain c 0 1 else s0
    | none => s0
  match g.state with
  | .filling _ _ bs => s1.giveBack false 1 (cellsFor bs.length)
  | _ => s1

/-- The beat in progress no longer tests the gather, and a byte that waits on the pool is dropped and
leaves the list (R92, R101, R108, R109). -/
def dropWaiting (n : Spur) (s : State) : State :=
  let l := s.lane n
  let s1 := s.setLane n { l with
    receiving := l.receiving.map fun (x : Receiving) => { x with tests := false } }
  let g := s1.gather n
  match g.waiting with
  | none => s1
  | some _ => (s1.setGather n { g with waiting := none }).leaveWaiting (.gather n)

/-! ### Inbound beats -/

/-- The profile the OPEN IN channel names (R79). -/
def State.inProfile (s : State) (c : Chan) : Profile :=
  match s.link c with | some l => s.profile l.profile | none => Profile.default

/-- GATED and PACED lose bytes; INTERLOCK and TOGGLE hold the peripheral back (R86, R97). -/
def Discipline.lossy : Discipline → Bool
  | .gated | .paced => true
  | .interlock | .toggle => false

/-- The lane takes an inbound snapshot; the Gather Unit's lossy flag follows it (R79, R97). -/
def State.takeInSnap (s : State) (n : Spur) (p : Profile) : State :=
  let s1 := s.setLane n { s.lane n with inSnap := some p }
  s1.setGather n { s1.gather n with lossy := p.discipline.lossy }

/-- A PACED pulse is asserted and the beat begins (R90); the idle timer does not run during a beat
(R106). -/
def beginPulse (n : Spur) (p : Profile) (s : State) : State :=
  let s1 := s.setGather n { s.gather n with idleTimer := none }
  s1.setLane n { s1.lane n with
    state := .receiving, strobe := true, pulses := .running
    receiving := some { disc := .paced, ackLimit := p.ackLimit, phase := .pulse, byte := none,
                        tests := false, term := false, ackTimer := none } }

/-- A byte is latched under INTERLOCK, GATED or TOGGLE (R87, R89, R91): the lane enters RECEIVING and
hands the byte on. GATED acknowledges by its strobe at once; the backpressure disciplines acknowledge
when the unit reports the byte taken (R86). -/
def latchByte (n : Spur) (p : Profile) (s : State) : State :=
  let l := s.lane n
  let b := l.dataIn
  let gated := decide (p.discipline = .gated)
  let s1 := s.setGather n { s.gather n with idleTimer := none }
  let t := handByte n b (if gated then s1 else s1.push [.acknowledge n])
  let beat : Receiving :=
    { disc := p.discipline, ackLimit := p.ackLimit, phase := if gated then .strobe else .held
      byte := some b, tests := t.tests, term := isTerminator n b s, ackTimer := none }
  t.state.setLane n { t.state.lane n with
    state := .receiving, offer := false
    strobe := if gated then true else l.strobe
    reference := if p.discipline = .toggle then some l.ready else l.reference
    receiving := some beat }

/-- The lane acknowledges a backpressure byte once it no longer waits for the pool (R86, R87, R91,
R92). An INTERLOCK beat then waits for READY under its ack limit; a TOGGLE beat ends. -/
def acknowledge (n : Spur) (s : State) : State :=
  let l := s.lane n
  match l.receiving with
  | none => s
  | some x =>
    if x.phase = .held ∧ (s.gather n).waiting = none then
      match x.disc with
      | .toggle => (s.setLane n { l with strobe := !l.strobe }).push [.beatEnd n]
      | _ =>
        let timer := if x.ackLimit = 0 then none else some x.ackLimit
        let s1 := s.setLane n { l with
          strobe := false, receiving := some { x with phase := .returning, ackTimer := timer } }
        if l.ready then s1.push [.beatEnd n] else s1
    else s

/-- The closure test at a beat's normal end (R104); a gather that stays partial starts its idle timer
(R106). -/
def closureTest (n : Spur) (x : Receiving) (s : State) : List Job × State :=
  match s.openIn n with
  | none => ([], s)
  | some c =>
    match s.inSettings c with
    | none => ([], s)
    | some k =>
      if x.term then ([.closeGather n .terminator], s)
      else if (s.gather n).count = k.gatherCount then ([.closeGather n .count], s)
      else if (s.gather n).isPartial then
        ([], s.setGather n { s.gather n with idleTimer := k.idleGap })
      else ([], s)

/-- An inbound beat ends (R86): the yield timer restarts if it runs, the closure test is made, the end
is reported for the drain test, and the lane returns to IDLE_IN. -/
def beatEnd (n : Spur) (s : State) : State :=
  let l := s.lane n
  match l.receiving with
  | none => s
  | some x =>
    let s1 := s.setLane n { l with
      receiving := none, yieldTimer := l.yieldTimer.map fun _ => l.config.yield }
    let t := if x.tests then closureTest n x s1 else ([], s1)
    let drain := match s.inChan n with | some c => [Job.drainTest c] | none => []
    t.2.push (t.1 ++ drain ++ [.idleIn n])

/-- The lane enters IDLE_IN, decides, and then begins or goes on taking beats (R71, R74; the order of
the two is log 11). -/
def idleIn (n : Spur) (s : State) : State :=
  let l := s.lane n
  if (l.state = .receiving ∨ l.state = .turnIn) ∧ l.receiving = none then
    decideIn n (syncYield n ((enterIdle n .idleIn s).push [.takeBeats n]))
  else s

/-- The discipline starts when the lane begins taking beats (R74, R87 to R91). -/
def beginTaking (n : Spur) (p : Profile) (s : State) : State :=
  let l := s.lane n
  match p.discipline with
  | .interlock => if l.ready then s.setLane n { l with strobe := true, offer := true } else s
  | .gated => s
  | .paced => beginPulse n p s
  | .toggle => s.setLane n { l with reference := some l.ready }

/-- The discipline goes on when the lane, taking beats, stands in IDLE_IN (R87, R90, R91). -/
def goOnTaking (n : Spur) (p : Profile) (s : State) : State :=
  let l := s.lane n
  match p.discipline with
  | .interlock =>
    if l.ready && !l.offer then s.setLane n { l with strobe := true, offer := true } else s
  | .gated => s
  | .paced => if l.pulses = .running then s else beginPulse n p s
  | .toggle => if l.reference = some l.ready then s else latchByte n p s

/-- In IDLE_IN with an OPEN IN channel the lane begins or goes on taking beats (R74). -/
def takeBeats (n : Spur) (s : State) : State :=
  let l := s.lane n
  if l.state = .idleIn then
    match s.openIn n with
    | none => s
    | some c =>
      match l.inSnap with
      | some p => goOnTaking n p s
      | none => beginTaking n (s.inProfile c) (s.takeInSnap n (s.inProfile c))
  else s

/-- The inbound snapshot is taken again (R79): a different discipline deasserts the strobe, records the
TOGGLE reference and starts afresh; the same one leaves them as they stand. -/
def retake (n : Spur) (s : State) : State :=
  match (s.lane n).inSnap, s.openIn n with
  | some old, some c =>
    let p := s.inProfile c
    let s1 := s.takeInSnap n p
    let l := s1.lane n
    if p.discipline = old.discipline then s1
    else s1.setLane n { l with strobe := false, offer := false, pulses := .none
                               reference := some l.ready }
  | _, _ => s

/-- Steps 2 to 4 of an inbound stall (R88): the STALL record, the halt with cause STALL, and the
return to IDLE_IN. -/
def inboundStallRest (n : Spur) (c : Chan) (bytes : Nat) (s : State) : State :=
  (stopTaking n ((s.record (.stall c bytes)).setPhase c (.halted .stall))).push [.idleIn n]

/-- The ack limit of an inbound INTERLOCK beat expires (R88, R92, R110). -/
def inboundExpiry (n : Spur) (x : Receiving) (s : State) : State :=
  let l := s.lane n
  match s.openIn n with
  | some c =>
    if x.tests then
      let g := s.gather n
      let s1 := s.setLane n { l with receiving := none }
      let s2 := s1.setGather n { g with state := .empty, idleTimer := none }
      let s3 := s2.push [.inboundStall n c g.count]
      match g.state with
      | .filling _ _ bs => s3.giveBack false 1 (cellsFor bs.length)
      | _ => s3
    else s.push [.beatEnd n]
  | none =>
    (s.setLane n { l with receiving := some { x with tests := false } }).push [.beatEnd n]

/-! ### The events of a lane -/

/-- SnRDY moves to this level with this byte on the data lines, while the lane sends (R81, R82,
R84). -/
def readyWhileSending (n : Spur) (x : Sending) (s : State) : State :=
  let l := s.lane n
  match x.phase with
  | .waitReady => if l.ready then presentByte n x s else s
  | .waitBusy =>
    if l.ready then s
    else s.setLane n { l with strobe := false, sending := some { x with phase := .waitReturn } }
  | .waitReturn => if l.ready then beatComplete n x s else s
  | .waitToggle => if l.reference = some l.ready then s else beatComplete n x s
  | .setup | .strobe | .pulse _ _ => s

/-- SnRDY has moved while the lane takes beats in IDLE_IN (R87, R89, R91). -/
def readyWhileTaking (n : Spur) (p : Profile) (s : State) : State :=
  let l := s.lane n
  match p.discipline with
  | .interlock => if !l.ready && l.offer then latchByte n p s else s.push [.takeBeats n]
  | .gated => if l.ready then s else latchByte n p s
  | .paced => s
  | .toggle => s.push [.takeBeats n]

/-- A change of SnRDY (R86): it advances the beat in progress, or begins an inbound one. -/
def readyChanged (n : Spur) (s : State) : State :=
  let l := s.lane n
  match l.state with
  | .sending => (match l.sending with | some x => readyWhileSending n x s | none => s)
  | .idleIn => (match l.inSnap with | some p => readyWhileTaking n p s | none => s)
  | .receiving =>
    (match l.receiving with
     | some x => if x.phase = .returning ∧ l.ready = true then s.push [.beatEnd n] else s
     | none => s)
  | _ => s

/-- The setup time has elapsed (R80): the beat makes its strobe action. -/
def setupElapsed (n : Spur) (s : State) : State :=
  match (s.lane n).sending with
  | some x => if x.phase = .setup then strobeAction n x s else s
  | none => s

/-- The strobe width of an outbound beat has elapsed (R82, R83). -/
def strobeElapsedOut (n : Spur) (x : Sending) (s : State) : State :=
  let s1 := s.setLane n { s.lane n with strobe := false }
  match x.phase with
  | .strobe => beatComplete n x s1
  | .pulse true true => s1.setSending n { x with phase := .pulse false true }
  | .pulse true false => beatComplete n x s1
  | _ => s

/-- The strobe width of an inbound beat has elapsed: a GATED beat ends (R89); a PACED pulse latches its
byte, hands it on and ends (R90).
DESIGN CHOICE, unsafe (log 27): where the channel has been halted or closed since the assertion and one is
OPEN again, the byte is judged by the entry as it stands (R98), tested, and, where its claim is refused,
lost as under PACED. -/
def strobeElapsedIn (n : Spur) (x : Receiving) (s : State) : State :=
  let l := s.lane n
  match x.phase with
  | .strobe => (s.setLane n { l with strobe := false }).push [.beatEnd n]
  | .pulse =>
    let t := handByte n l.dataIn (s.push [.beatEnd n])
    t.state.setLane n { t.state.lane n with
      strobe := false
      receiving := some { x with byte := some l.dataIn, tests := t.tests
                                 term := isTerminator n l.dataIn s } }
  | .held | .returning => s

/-- The strobe width has elapsed on spur n. -/
def strobeElapsed (n : Spur) (s : State) : State :=
  let l := s.lane n
  match l.sending, l.receiving with
  | some x, _ => strobeElapsedOut n x s
  | none, some x => strobeElapsedIn n x s
  | none, none => s

/-- The pacing interval has elapsed on spur n (R83, R90). -/
def pacingElapsed (n : Spur) (s : State) : State :=
  let l := s.lane n
  match l.sending with
  | some x =>
    (match x.phase with
     | .pulse true true => s.setSending n { x with phase := .pulse true false }
     | .pulse false true => beatComplete n x s
     | _ => s)
  | none =>
    if l.pulses = .running then
      (s.setLane n { l with pulses := .elapsed }).push [.takeBeats n]
    else s

/-- The ack limit expires on spur n (R62, R80, R88); without a running timer nothing does. -/
def ackExpired (n : Spur) (s : State) : State :=
  let l := s.lane n
  match l.sending, l.receiving with
  | some x, _ => if x.ackTimer.isSome then outboundStall n x s else s
  | none, some x => if x.ackTimer.isSome then inboundExpiry n x s else s
  | none, none => s

/-- The guard of TURN_IN expires (R68). -/
def turnInDone (n : Spur) (s : State) : State :=
  let l := s.lane n
  if l.state = .turnIn then (s.setLane n { l with guardTimer := none }).push [.idleIn n] else s

/-- The guard of TURN_OUT expires (R69). -/
def turnOutDone (n : Spur) (s : State) : State :=
  let l := s.lane n
  if l.state = .turnOut then
    (enterIdle n .idleOut (s.setLane n { l with guardTimer := none, drive := some 0 })).push
      [.decide n]
  else s

/-- The yield timer expires: a yield is due (R75). -/
def yieldExpired (n : Spur) (s : State) : State :=
  let l := s.lane n
  if l.yieldTimer.isSome then
    (s.setLane n { l with yieldTimer := none, yieldDue := true }).push [.decide n]
  else s

/-- The idle timer expires: the gather closes with IDLE (R106), and the lane decides again (R71). -/
def idleExpired (n : Spur) (s : State) : State :=
  if (s.gather n).idleTimer.isSome then
    s.push [.closeGather n .idle, .decide n, .takeBeats n]
  else s

end Sys2Proof.Machine
end

