-- ==== Sys2Proof/Machine/Channels.lean ====
section
/-! DEFINITION. The Channel Map's part in the outbound path (03) and in closing (02): acceptance,
drops, credited drop reports, the drain completion test; and the pool's serving of its waiting
list (07). -/

namespace Sys2Proof.Machine

/-! ### Acceptance -/

/-- The outcome of the acceptance test (table of R45): a drop reason, or the entry the parcel is
accepted for with its credit limit and outstanding count. -/
def State.judge (s : State) (c : Chan) : DropReason ⊕ (Link × Nat × Nat) :=
  match s.link c with
  | none => .inl .closed
  | some l =>
    if l.isDraining then .inl .closing
    else match l.dir with
      | .inbound _ => .inl .direction
      | .outbound limit k =>
        if limit ≤ k + s.credit c then .inl .overdrawn else .inr (l, limit, k)

/-- A good data parcel arrives for channel c (R45): it is accepted (R46, R47) or dropped (R48). -/
def acceptance (c : Chan) (body : List Byte) (s : State) : State :=
  match s.judge c with
  | .inl r => (s.push [.acceptanceDrop c r]).giveBack false 1 (cellsFor body.length)
  | .inr (l, limit, k) =>
    let s1 := s.setLink c (some { l with dir := .outbound limit (k + 1) })
    let s2 := s1.setQueue l.spur (s1.queue l.spur ++ [{ chan := c, origin := .host, body := body }])
    s2.push [.capture c body, .work l.spur]

/-- A parcel dropped at acceptance makes its DROP record and counts (R48 steps 2 and 3). -/
def acceptanceDrop (c : Chan) (r : DropReason) (s : State) : State :=
  (s.record (.drop c r)).countDrop c

/-- A drop report (R49): record, count, and one credit for an OUT channel, OPEN or HALTED, whose sum
is below its limit. -/
def dropReport (c : Chan) (r : DropReason) (s : State) : State :=
  let s1 := acceptanceDrop c r s
  match s.judge c with
  | .inl _ => s1
  | .inr _ => { s1 with notices := s1.notices.addCredit c }

/-! ### Drain completion -/

/-- Nothing of the channel is queued, on the lane, gathered or in an inbound beat (R38). -/
def State.drained (s : State) (c : Chan) (l : Link) : Bool :=
  let col := s.column l.spur
  !(col.queue.any fun e => decide (e.chan = c)) &&
  (match col.lane.sending with | some x => decide (x.parcel.chan ≠ c) | none => true) &&
  (!l.isIn || (!col.gather.isPartial && col.gather.waiting = none && col.lane.receiving = none))

/-- The drain completion test (R38) and the completion (R39): the SHUT record, the credit cleared, the
entry CLOSED. -/
def drainTest (c : Chan) (s : State) : State :=
  match s.link c with
  | none => s
  | some l =>
    match l.phase with
    | .draining _ a b =>
      if s.drained c l then
        let s1 := s.record (.shut c a b)
        let s2 := { s1 with notices := s1.notices.clearCredit c }
        (s2.setLink c none).push [.work l.spur, .decide l.spur]
      else s
    | _ => s

/-! ### The waiting list -/

/-- The pool serves its waiting list (R143): the head is judged by the ordinary test as head waiter;
a granted waiter takes its storage and acts at once, before the next is judged. -/
def serve (s : State) : State :=
  match s.pool.waiting with
  | [] => s
  | w :: rest =>
    if s.pool.ordinaryFits w.descriptors w.cells then
      let s1 := { s with pool := { s.pool.take w.descriptors w.cells with waiting := rest } }.push
        [.serve]
      match w.who with
      | .gather n => grantedByte n s1
      | .context i => emit i s1
    else s

end Sys2Proof.Machine
end

