-- ==== Sys2Proof/Machine/Requests.lean ====
section
/-! DEFINITION. What each of the 23 management requests does when it is executed: its checks in the
order of its rule, its effects, its status and its results. A request refused with any status changes
nothing (R170). The executions here are called by the Management Engine (Management.lean). -/

namespace Sys2Proof.Machine

/-- What an execution answers: the part after its first effects, the status, and the results (R170).
Effects that follow give-backs stand on the agenda. -/
structure Reply where
  state   : State
  status  : Status
  results : List Byte

/-- A refused request changes nothing (R170). -/
def State.refuse (s : State) (st : Status) : Reply := { state := s, status := st, results := [] }

/-- A request that succeeds with results. -/
def State.answer (s : State) (results : List Byte) : Reply :=
  { state := s, status := .ok, results := results }

/-! ### Status, counters, restart, trunk settings -/

/-- IDENTIFY (R183). -/
def identify (params : List Byte) (s : State) : Reply :=
  match params with
  | [] =>
    s.answer ([0x4C, 0x43, 0x32, 0x32, 0x36, 0x30, 3, 47, 4] ++ twoBytes Config.cells ++
      [byteOf Config.descriptors, 16, 8, 4])
  | _ => s.refuse .malformed

/-- The two bytes of a spur in the READ STATUS record (section 10.2). -/
def State.laneBytes (s : State) (n : Spur) : List Byte :=
  [(s.lane n).state.code, (s.lane n).state.dirCode]

/-- The 40-byte READ STATUS record (section 10.2, R184). -/
def State.statusRecord (s : State) : List Byte :=
  let k := s.rx.counts
  let e := s.engine.counts
  twoBytes s.pool.freeCells ++ [byteOf s.pool.freeDescriptors] ++ twoBytes s.pool.segmentCells ++
  twoBytes s.store.quota ++ [s.notices.lost, byteOf s.notClosed] ++
  s.laneBytes 0 ++ s.laneBytes 1 ++ s.laneBytes 2 ++ s.laneBytes 3 ++
  twoBytes k.stray.toNat ++ twoBytes k.framing.toNat ++ twoBytes k.length.toNat ++
  twoBytes k.check.toNat ++ twoBytes k.gap.toNat ++ twoBytes k.unknown.toNat ++
  twoBytes k.breaks.toNat ++ twoBytes e.malformed.toNat ++ twoBytes e.repeats.toNat ++
  twoBytes e.duplicates.toNat ++ twoBytes e.lost.toNat ++ [s.lastReset.code]

/-- READ STATUS (R184). -/
def readStatus (params : List Byte) (s : State) : Reply :=
  match params with
  | [] => s.answer s.statusRecord
  | _ => s.refuse .malformed

/-- An entry with its counters at 0 (R187). -/
def Channel.zeroed (x : Channel) : Channel := { x with parcels := 0, bytes := 0, drops := 0 }

/-- RESET COUNTERS (R187). -/
def resetCounters (params : List Byte) (s : State) : Reply :=
  match params with
  | [] =>
    ({ s with
      rx := { s.rx with counts := TrunkCounts.zero }
      engine := { s.engine with counts := EngineCounts.zero }
      channels := allChans.foldl
        (fun (v : Vector Channel 47) (c : Chan) => v.set c.val (s.channel c).zeroed)
        s.channels }).answer []
  | _ => s.refuse .malformed

/-- RESTART (R189): the restart hold is set; the restart takes effect when its response has been sent
(R190, R191). -/
def restartRequest (params : List Byte) (s : State) : Reply :=
  match params with
  | [] => { s with engine := { s.engine with hold := true } }.answer []
  | _ => s.refuse .malformed

/-- SET TRUNK (R17). -/
def setTrunk (params : List Byte) (s : State) : Reply :=
  match params with
  | [gap, holdOff] =>
    if gap = 0 then s.refuse .range
    else { s with rx := { s.rx with gapLimit := gap }
                  notices := { s.notices with holdOff := holdOff } }.answer
      [s.rx.gapLimit, s.notices.holdOff]
  | _ => s.refuse .malformed

/-! ### Profiles and spurs -/

/-- The lanes that take a rewritten profile's new values at once (R79): taking beats for a channel that
names it, with the gather EMPTY and no inbound beat in progress. -/
def State.retakers (s : State) (k : ProfileNo) : List Spur :=
  (List.finRange 4).filter fun n =>
    (s.lane n).inSnap.isSome && !(s.gather n).isPartial && (s.lane n).receiving = none &&
    (match s.openIn n with
     | some c => (match s.link c with | some l => decide (l.profile = k) | none => false)
     | none => false)

/-- SET PROFILE (R77). -/
def setProfile (params : List Byte) (s : State) : Reply :=
  match params with
  | [num, disc, setup, strobe, pHi, pLo, aHi, aLo] =>
    match profileOf num, readProfileFields disc setup strobe pHi pLo aHi aLo with
    | some k, some p =>
      let s1 := { s with profiles := s.profiles.set k.val p }
      (s1.push ((s.retakers k).flatMap fun n => [.retake n, .takeBeats n])).answer []
    | _, _ => s.refuse .range
  | _ => s.refuse .malformed

/-- READ PROFILE (R78). -/
def readProfile (params : List Byte) (s : State) : Reply :=
  match params with
  | [num] =>
    (match profileOf num with
     | some k => s.answer (num :: (s.profile k).bytes)
     | none => s.refuse .range)
  | _ => s.refuse .malformed

/-- A spur is enabled (R94): the lane leaves OFF by a turnaround to its home direction. -/
def enableSpur (n : Spur) (s : State) : State :=
  match (s.lane n).config.home with
  | .inward => turnIn n s
  | .outward => turnOut n s

/-- A spur is disabled (R94): the lane goes OFF and drops what it held. -/
def disableSpur (n : Spur) (s : State) : State :=
  let l := s.lane n
  s.setLane n (Lane.cut l.config l.ready l.atn l.dataIn)

/-- SET SPUR (R93, R94). -/
def setSpur (params : List Byte) (s : State) : Reply :=
  match params with
  | [spur, enable, home, guard, attention, yield] =>
    match spurOf spur, readSpurConfig enable home guard attention yield with
    | some n, some cfg =>
      let old := (s.lane n).config
      if cfg.enable = false ∧ s.spurUsed n = true then s.refuse .state
      else
        let s1 := s.setLane n { s.lane n with config := cfg }
        let s2 := match old.enable, cfg.enable with
          | false, true => enableSpur n s1
          | true, false => disableSpur n s1
          | _, _ => s1.push [.decide n]
        s2.answer old.bytes
    | _, _ => s.refuse .range
  | _ => s.refuse .malformed

/-- READ SPUR (R95). -/
def readSpur (params : List Byte) (s : State) : Reply :=
  match params with
  | [spur] =>
    (match spurOf spur with
     | some n =>
       let l := s.lane n
       s.answer ([spur] ++ l.config.bytes ++
         [l.state.code, l.state.dirCode, if l.atn then 1 else 0, if l.ready then 1 else 0,
          byteOf (s.queue n).length])
     | none => s.refuse .range)
  | _ => s.refuse .malformed

/-! ### Channels -/

/-- The tee field names a segment that can be bound (R27, R41): the status that refuses it. -/
def State.teeRefusal (s : State) (h : Handle) : Option Status :=
  match s.segment h with
  | none => some .absent
  | some g => if g.state = .ready then none else some .busy

/-- The checks on the channel and its spur (R26): the status that refuses the opening. -/
def State.openRefusal (s : State) (c : Chan) (dir : Direction) (n : Spur) : Option Status :=
  if (s.link c).isSome || !(s.lane n).config.enable then some .state
  else match dir with
    | .inbound _ => if (s.inChan n).isSome then some .conflict else none
    | .outbound limit _ =>
      if Config.creditQuota < limit + s.creditSum n then some .quota else none

/-- The channel opens (R27). -/
def openAs (c : Chan) (l : Link) (s : State) : State :=
  let s1 := s.setLink c (some l)
  let s2 := match l.tee with | none => s1 | some h => s1.setSegState h .capturing
  s2.push [.decide l.spur, .takeBeats l.spur]

/-- OPEN CHANNEL (R25, R26, R27). -/
def openChannel (params : List Byte) (s : State) : Reply :=
  match params with
  | [chan, dir, spur, prof, limit, count, mode, term, gap, cls, tee] =>
    match chanOf chan, readDirection dir limit count mode term gap cls, spurOf spur,
      profileOf prof, readTee tee with
    | some c, some d, some n, some k, some t =>
      match s.openRefusal c d n with
      | some st => s.refuse st
      | none =>
        match t.bind s.teeRefusal with
        | some st => s.refuse st
        | none =>
          (openAs c { dir := d, spur := n, profile := k, tee := t, phase := .opened } s).answer []
    | _, _, _, _, _ => s.refuse .range
  | _ => s.refuse .malformed

/-- The steps of entry to DRAINING (R31) after the first, for a channel that enters in this mode. -/
def drainJobs (c : Chan) (l : Link) (mode : CloseMode) : List Job :=
  let gather := match mode with
    | .drain => Job.closeGather l.spur .close
    | .discard => Job.dropGather l.spur
  if l.isIn then
    [.dropWaiting l.spur, gather, .dropTee c, .endContext c, .stopTaking l.spur,
     .acknowledge l.spur, .drainTest c, .decide l.spur]
  else
    [.dropTee c, .endContext c] ++
    (match mode with | .drain => [] | .discard => [.discardQueued c]) ++
    [.drainTest c, .work l.spur, .decide l.spur]

/-- A channel enters DRAINING (R31). -/
def enterDraining (c : Chan) (l : Link) (mode : CloseMode) (s : State) : State :=
  (s.setPhase c (.draining mode 0 0)).push (drainJobs c l mode)

/-- A drain in mode DRAIN is upgraded (R37). -/
def upgradeDrain (c : Chan) (l : Link) (a b : Byte) (s : State) : State :=
  (s.setPhase c (.draining .discard a b)).push
    ((if l.isIn then [] else [.discardQueued c]) ++ [.drainTest c])

/-- CLOSE CHANNEL on an entry (table of R30). -/
def closeAs (c : Chan) (mode : CloseMode) (s : State) : Reply :=
  let accept (s : State) : Reply := { state := s, status := .accepted, results := [] }
  match s.link c with
  | none => s.refuse .state
  | some l =>
    match l.phase, mode with
    | .opened, m => accept (enterDraining c l m s)
    | .halted _, _ => accept (enterDraining c l .discard s)
    | .draining .drain a b, .discard => accept (upgradeDrain c l a b s)
    | .draining .discard _ _, .discard => accept s
    | .draining _ _ _, .drain => s.refuse .state

/-- CLOSE CHANNEL (R30). -/
def closeChannel (params : List Byte) (s : State) : Reply :=
  match params with
  | [chan, mode] =>
    (match chanOf chan, twoWay mode CloseMode.drain .discard with
     | some c, some m => closeAs c m s
     | _, _ => s.refuse .range)
  | _ => s.refuse .malformed

/-- What follows a HALT CHANNEL (R28, R108, R165): an IN channel's gather closes and its lane stops
taking beats; an OUT channel's playback pauses and its entries are held. -/
def haltJobs (c : Chan) (l : Link) : List Job :=
  if l.isIn then
    [.dropWaiting l.spur, .closeGather l.spur .halt, .stopTaking l.spur, .acknowledge l.spur,
     .decide l.spur]
  else [.pauseContext c, .work l.spur, .decide l.spur]

/-- HALT CHANNEL (R28). -/
def haltChannel (params : List Byte) (s : State) : Reply :=
  match params with
  | [chan] =>
    match chanOf chan with
    | none => s.refuse .range
    | some c =>
      match s.link c with
      | none => s.refuse .state
      | some l =>
        if l.isOpen then ((s.setPhase c (.halted .host)).push (haltJobs c l)).answer []
        else s.refuse .state
  | _ => s.refuse .malformed

/-- RESUME CHANNEL (R29). -/
def resumeChannel (params : List Byte) (s : State) : Reply :=
  match params with
  | [chan] =>
    match chanOf chan with
    | none => s.refuse .range
    | some c =>
      match s.link c with
      | none => s.refuse .state
      | some l =>
        match l.phase with
        | .halted _ =>
          ((s.setPhase c .opened).push
            [.resumeContext c, .work l.spur, .decide l.spur, .takeBeats l.spur]).answer []
        | _ => s.refuse .state
  | _ => s.refuse .malformed

/-- Items 2 to 18 of the READ CHANNEL record (R40), with the absent values of section 2.3. -/
def State.linkBytes (s : State) (c : Chan) : List Byte :=
  match s.link c with
  | none => [0, 255, 255, 255, 0, 255, 255, 0, 0, 0, 0, 255, 0, 0, 255, 0, 0]
  | some l =>
    let state : Byte := match l.phase with | .opened => 1 | .halted _ => 2 | .draining _ _ _ => 3
    let dir : List Byte := match l.dir with
      | .outbound limit k =>
        [0, byteOf l.spur.val, byteOf l.profile.val, byteOf limit, byteOf k, byteOf (s.credit c),
         0, 0, 0, 0, 255]
      | .inbound i =>
        [1, byteOf l.spur.val, byteOf l.profile.val, 0, 255, 255, byteOf i.gatherCount] ++
        terminatorBytes i.terminator ++ [optByte 0 i.idleGap, i.cls.code]
    let phase : List Byte := match l.phase with
      | .opened => [0, 255, 0, 0]
      | .halted k => [k.code, 255, 0, 0]
      | .draining m a b => [0, m.code, a, b]
    [state] ++ dir ++ [teeByte l.tee] ++ phase

/-- The 28-byte record of one entry (R40). -/
def State.channelRecord (s : State) (c : Chan) : List Byte :=
  let x := s.channel c
  [byteOf (chanNumber c)] ++ s.linkBytes c ++ fourBytes x.parcels.toNat ++ fourBytes x.bytes.toNat ++
  twoBytes x.drops.toNat

/-- READ CHANNEL (R40). -/
def readChannel (params : List Byte) (s : State) : Reply :=
  match params with
  | [chan] =>
    (match chanOf chan with
     | some c => s.answer (s.channelRecord c)
     | none => s.refuse .range)
  | _ => s.refuse .malformed

/-- The binding changes from `old` to `new` (table of R42). -/
def rebindTee (c : Chan) (old new : Option Handle) (s : State) : State :=
  if old = new then s
  else
    let s1 := match old with | none => s | some h => s.setSegState h .ready
    let s2 := match new with | none => s1 | some h => s1.setSegState h .capturing
    s2.setTee c new

/-- SET TEE (R41, R42). -/
def setTee (params : List Byte) (s : State) : Reply :=
  match params with
  | [chan, tee] =>
    match chanOf chan, readTee tee with
    | some c, some t =>
      match s.link c with
      | none => s.refuse .state
      | some l =>
        if l.isDraining then s.refuse .state
        else if t = l.tee then s.answer [teeByte l.tee]
        else match t.bind s.teeRefusal with
          | some st => s.refuse st
          | none => (rebindTee c l.tee t s).answer [teeByte l.tee]
    | _, _ => s.refuse .range
  | _ => s.refuse .malformed

/-! ### Segments -/

/-- The lowest free handle (R151). -/
def State.freeHandle (s : State) : Option Handle :=
  (List.finRange 16).find? fun h => (s.segment h).isNone

/-- A label character is printable (section 8.1). -/
def labelChar (b : Byte) : Bool := 0x20 ≤ b.toNat ∧ b.toNat ≤ 0x7E

/-- CREATE SEGMENT (R151). -/
def createSegment (params : List Byte) (s : State) : Reply :=
  match params with
  | hi :: lo :: len :: label =>
    if label.length ≠ len.toNat then s.refuse .malformed
    else if wordOf hi lo = 0 ∨ Config.maxSegmentCells < wordOf hi lo ∨ 8 < len.toNat ∨
        label.all labelChar = false then s.refuse .range
    else match s.freeHandle with
      | none => s.refuse .full
      | some h =>
        (s.setSegment h (some { label := label, state := .ready, cellLimit := wordOf hi lo
                                entries := [] })).answer [byteOf (handleNumber h)]
  | _ => s.refuse .malformed

/-- WRITE SEGMENT (R152). -/
def writeSegment (params : List Byte) (s : State) : Reply :=
  match params with
  | [] => s.refuse .malformed
  | handle :: data =>
    match handleOf handle with
    | none => s.refuse .range
    | some h =>
      match s.segment h with
      | none => s.refuse .absent
      | some g =>
        if g.state ≠ .ready then s.refuse .busy
        else match append h data s with
          | none => s.refuse .full
          | some s' =>
            s'.answer (byteOf (g.entries.length + 1) ::
              twoBytes (g.cellsHeld + cellsFor data.length))

/-- READ SEGMENT (R153). -/
def readSegment (params : List Byte) (s : State) : Reply :=
  match params with
  | [handle, index, offset] =>
    match handleOf handle with
    | none => s.refuse .range
    | some h =>
      match s.segment h with
      | none => s.refuse .absent
      | some g =>
        let entry := if index = 0 then [] else g.entries.getD (index.toNat - 1) []
        if g.entries.length < index.toNat ∨ entry.length < offset.toNat then s.refuse .range
        else
          let data := (entry.drop offset.toNat).take 200
          s.answer ([handle, g.state.code, byteOf g.entries.length] ++ twoBytes g.totalBytes ++
            twoBytes g.cellLimit ++ [byteOf entry.length, offset, byteOf data.length] ++ data)
  | _ => s.refuse .malformed

/-- A segment is removed and its cells are given back (R154). -/
def removeSegment (h : Handle) (g : Segment) (s : State) : State :=
  let s1 := s.setSegment h none
  { s1 with pool := { s1.pool with segmentCells := s1.pool.segmentCells - g.cellsHeld } }.giveBack
    false 0 g.cellsHeld

/-- DELETE SEGMENT (R154). -/
def deleteSegment (params : List Byte) (s : State) : Reply :=
  match params with
  | [handle] =>
    match handleOf handle with
    | none => s.refuse .range
    | some h =>
      match s.segment h with
      | none => s.refuse .absent
      | some g =>
        if g.state ≠ .ready then s.refuse .busy
        else (removeSegment h g s).answer (twoBytes g.cellsHeld)
  | _ => s.refuse .malformed

/-- The 14-byte item of an existing segment (R155). -/
def segmentItem (h : Handle) (g : Segment) : List Byte :=
  [byteOf (handleNumber h), g.state.code, byteOf g.entries.length] ++ twoBytes g.cellsHeld ++
  [byteOf g.label.length] ++ g.label ++ List.replicate (8 - g.label.length) 0

/-- LIST SEGMENTS (R155). -/
def listSegments (params : List Byte) (s : State) : Reply :=
  match params with
  | [] =>
    let items := (List.finRange 16).flatMap fun h =>
      match s.segment h with | some g => segmentItem h g | none => []
    let count := ((List.finRange 16).filter fun h => (s.segment h).isSome).length
    s.answer (byteOf count :: items)
  | _ => s.refuse .malformed

/-- A PLAYBACK parcel whose context has ended stands in the spur's queue or on its lane (R160). -/
def State.strayPlayback (s : State) (n : Spur) : Bool :=
  ((s.queue n).any fun e => decide (e.origin = .playback none)) ||
  (match (s.lane n).sending with
   | some x => decide (x.parcel.origin = .playback none)
   | none => false)

/-- A FREE context: the one with the lowest number (R160; which one is log 16). -/
def State.freeContext (s : State) : Option Context :=
  (List.finRange 4).find? fun i => (s.context i).isNone

/-- A playback starts (R160): the segment becomes PLAYING and a context ACTIVE, which tests its
conditions at once. -/
def startPlayback (i : Context) (h : Handle) (c : Chan) (n : Spur) (repeats spacing : Byte)
    (s : State) : State :=
  let p : Playback :=
    { phase := .active, handle := h, chan := c, spur := n, next := 1
      repeats := if repeats = 0 then none else some repeats.toNat
      spacing := spacing, count := 0, timer := .elapsed }
  ((s.setSegState h .playing).setContext i (some p)).push [.testContext i]

/-- PLAY SEGMENT (R160). -/
def playSegment (params : List Byte) (s : State) : Reply :=
  match params with
  | [handle, chan, repeats, spacing] =>
    match handleOf handle, chanOf chan with
    | some h, some c =>
      match s.segment h with
      | none => s.refuse .absent
      | some g =>
        if g.state ≠ .ready then s.refuse .busy
        else match s.link c with
          | none => s.refuse .state
          | some l =>
            if g.entries = [] ∨ l.isOpen = false ∨ l.isIn = true then s.refuse .state
            else if (s.contextOn l.spur).isSome ∨ (s.contextOf c).isSome ∨
                s.strayPlayback l.spur = true then s.refuse .busy
            else match s.freeContext with
              | none => s.refuse .busy
              | some i => (startPlayback i h c l.spur repeats spacing s).answer []
    | _, _ => s.refuse .range
  | _ => s.refuse .malformed

/-- A playback is stopped (R166): the context leaves the waiting list; then its queued parcels are
removed; then it becomes FREE, its parcel on the lane told to no context. -/
def stopAs (i : Context) (s : State) : State :=
  s.endPlayback i [.removePlayback i, .freeContext i .stopped]

/-- STOP PLAY (R166). -/
def stopPlay (params : List Byte) (s : State) : Reply :=
  match params with
  | [chan] =>
    match chanOf chan with
    | none => s.refuse .range
    | some c =>
      match s.contextOf c with
      | none => s.refuse .state
      | some i =>
        match s.context i with
        | none => s.refuse .state
        | some p => (stopAs i s).answer [byteOf p.next, byteOf (p.repeats.getD 0)]
  | _ => s.refuse .malformed

/-- SET QUOTA (R156). -/
def setQuota (params : List Byte) (s : State) : Reply :=
  match params with
  | [hi, lo] =>
    if Config.maxSegmentCells < wordOf hi lo then s.refuse .range
    else if wordOf hi lo < s.pool.segmentCells then s.refuse .quota
    else { s with store := { s.store with quota := wordOf hi lo } }.answer (twoBytes s.store.quota)
  | _ => s.refuse .malformed

end Sys2Proof.Machine
end

