-- ==== Sys2Proof/Machine/Trunk.lean ====
section
/-! DEFINITION. The trunk (01_parcels_and_the_trunk.md): the Trunk Receiver's judgement of each beat,
framing faults, gap expiry and breaks, and the Trunk Transmitter's beats. -/

namespace Sys2Proof.Machine

/-! ### The Trunk Receiver -/

/-- Replace the receiver. -/
def State.setRx (s : State) (r : Receiver) : State := { s with rx := r }

/-- Count in the trunk counters (R14). -/
def State.countTrunk (s : State) (f : TrunkCounts → TrunkCounts) : State :=
  s.setRx { s.rx with counts := f s.rx.counts }

/-- Give back what a parcel under reception holds; nothing in NO-STORAGE mode (R11). -/
def State.freeReception (s : State) (p : Reception) : State :=
  match p.stored with
  | none => s
  | some bs => s.giveBack (p.tag = 0) 1 (cellsFor bs.length)

/-- The drop report for a parcel with a data tag; none for other tags (R13). -/
def dropReportOf (tag : Byte) (r : DropReason) : List Job :=
  match chanOf tag with
  | none => []
  | some c => [.dropReport c r]

/-- A claim of the receiver, with the standing of the parcel's tag (R4, R7, R136). -/
def State.claimRx (s : State) (tag : Byte) (d k : Nat) : Option Pool :=
  if tag = 0 then s.pool.claimManagement d k
  else if (chanOf tag).isSome then s.pool.claimOrdinary d k
  else none

/-- A MARK beat is the tag of a new parcel (R4). -/
def takeTag (data : Byte) (s : State) : State :=
  let p : Reception :=
    { tag := data, len := 0, count := 0, stored := none, first := [], gapLimit := s.rx.gapLimit }
  let enter (s : State) (p : Reception) : State :=
    s.setRx { s.rx with state := .length p, sum := data, gapTimer := some s.rx.gapLimit }
  match s.claimRx data 1 0 with
  | some pool => enter { s with pool := pool } { p with stored := some [] }
  | none => enter s p

/-- The length beat (R5). -/
def lengthBeat (p : Reception) (data : Byte) (s : State) : State :=
  let rx := { s.rx with sum := s.rx.sum + data }
  if Config.maxBody < data.toNat then
    ((s.setRx { rx with state := .discard, gapTimer := none
                        counts := { rx.counts with length := satInc rx.counts.length } }).push
      (dropReportOf p.tag .length)).freeReception p
  else if data = 0 then
    s.setRx { rx with state := .check { p with len := 0 }, gapTimer := some p.gapLimit }
  else
    s.setRx { rx with state := .body { p with len := data }, gapTimer := some p.gapLimit }

/-- The receiver's next state after a body byte (R7). -/
def afterBody (p : Reception) : RxState := if p.count = p.len.toNat then .check p else .body p

/-- A body beat (R7), with the change to NO-STORAGE at a refused cell (R11). -/
def bodyBeat (p : Reception) (data : Byte) (s : State) : State :=
  let p1 : Reception :=
    { p with count := p.count + 1
             first := if p.first.length < 2 then p.first ++ [data] else p.first }
  let go (s : State) (p : Reception) : State :=
    s.setRx { s.rx with state := afterBody p, sum := s.rx.sum + data, gapTimer := some p.gapLimit }
  match p.stored with
  | none => go s p1
  | some bs =>
    if p.count % Config.cellBytes = 0 then
      match s.claimRx p.tag 0 1 with
      | some pool => go { s with pool := pool } { p1 with stored := some (bs ++ [data]) }
      | none => (go s { p1 with stored := none }).freeReception p
    else go s { p1 with stored := some (bs ++ [data]) }

/-- A lost request is handed to the engine; with fewer than two body bytes it is an unparseable body
(R13, R173). -/
def lostRequest (first : List Byte) (s : State) : State :=
  match first with
  | code :: seq :: _ =>
    let s' := s.record (.reqlost code seq)
    { s' with engine := { s'.engine with
        counts := { s'.engine.counts with lost := satInc s'.engine.counts.lost } } }
  | _ =>
    { s with engine := { s.engine with
        counts := { s.engine.counts with malformed := satInc s.engine.counts.malformed } } }

/-- A good parcel is handed on, or reported as unstored (R8 cases 2 and 3, R12, R13). -/
def handOff (p : Reception) (s : State) : State :=
  match p.stored with
  | none =>
    if p.tag = 0 then lostRequest p.first s
    else match chanOf p.tag with
      | some c => s.push [.dropReport c .noroom]
      | none => s.countTrunk fun k => { k with unknown := satInc k.unknown }
  | some bs =>
    match chanOf p.tag with
    | some c => s.push [.acceptance c bs]
    | none => s.push [.arrival bs]

/-- The check beat and the judgement of the parcel (R8). -/
def checkBeat (p : Reception) (data : Byte) (s : State) : State :=
  let sum := s.rx.sum + data
  let s1 := s.setRx { s.rx with state := .hunt, sum := sum, gapTimer := none }
  if sum = 0 then handOff p s1
  else
    ((s1.countTrunk fun k => { k with check := satInc k.check }).push
      (dropReportOf p.tag .check)).freeReception p

/-- A MARK beat in LENGTH, BODY or CHECK abandons the parcel and begins a new one (R9). -/
def framingFault (p : Reception) (data : Byte) (s : State) : State :=
  let s1 := (s.setRx { s.rx with state := .hunt, gapTimer := none }).countTrunk
    fun k => { k with framing := satInc k.framing }
  (s1.push (dropReportOf p.tag .truncated ++ [.takeTag data])).freeReception p

/-- A latched beat reaches the receiver (R4 to R9). -/
def rxBeat (mark : Bool) (data : Byte) (s : State) : State :=
  match s.rx.state, mark with
  | .hunt, false => s.countTrunk fun k => { k with stray := satInc k.stray }
  | .discard, false => s
  | .hunt, true => takeTag data s
  | .discard, true => takeTag data s
  | .length p, false => lengthBeat p data s
  | .body p, false => bodyBeat p data s
  | .check p, false => checkBeat p data s
  | .length p, true => framingFault p data s
  | .body p, true => framingFault p data s
  | .check p, true => framingFault p data s

/-- The parcel under reception, in LENGTH, BODY or CHECK. -/
def Receiver.current (r : Receiver) : Option Reception :=
  match r.state with
  | .length p | .body p | .check p => some p
  | .hunt | .discard => none

/-- The gap timer expires (R10); without a parcel under reception it does not run. -/
def gapExpiry (s : State) : State :=
  match s.rx.gapTimer, s.rx.current with
  | some _, some p =>
    let s1 := (s.setRx { s.rx with state := .hunt, gapTimer := none }).countTrunk
      fun k => { k with gap := satInc k.gap }
    (s1.push (dropReportOf p.tag .truncated)).freeReception p
  | _, _ => s

/-! ### The break -/

/-- The break timer follows TIMK and TIRQ (R15). -/
def BreakTimer.follow (t : BreakTimer) (timk tirq : Bool) : BreakTimer :=
  if timk && !tirq then (match t with | .stopped => .running | t => t) else .stopped

/-- The levels of TID, TIMK and TIRQ move and the break timer follows (R15); under RESET_N it does
not run (R192). -/
def State.moveTrunkIn (s : State) (tid : Byte) (timk tirq : Bool) : State :=
  { s with
    trunkIn := { s.trunkIn with tid := tid, timk := timk, tirq := tirq }
    rx := { s.rx with
      breakTimer := if s.inReset then .stopped else s.rx.breakTimer.follow timk tirq } }

/-- The break time has passed (R15): the break is declared (R16, steps 1 to 3). -/
def declareBreak (s : State) : State :=
  match s.rx.breakTimer with
  | .running =>
    let s1 := (s.setRx { s.rx with state := .hunt, gapTimer := none, breakTimer := .declared
                        }).countTrunk fun k => { k with breaks := satInc k.breaks }
    let s2 := s1.push [.breakTold]
    match s.rx.current with
    | some p => s2.freeReception p
    | none => s2
  | _ => s

/-- The BREAK record is made and the engine is told (R16 steps 4 and 5, R180): waiting requests give
back their storage, the remembered response is forgotten, and the executing request, if there is one,
is marked. -/
def breakTold (s : State) : State :=
  let s1 := s.record .brk
  let kept := if s1.engine.hold then [] else (s1.engine.requests.take 1).map
    fun (r : Request) => { r with discard := true }
  let flushed := if s1.engine.hold then s1.engine.requests else s1.engine.requests.drop 1
  { s1 with engine := { s1.engine with requests := kept, remembered := none } }.giveBack true
    flushed.length ((flushed.map fun (r : Request) => cellsFor (r.params.length + 2)).sum)

/-! ### The Trunk Transmitter -/

/-- The check that makes the beats sum to 0 (R3, R18). -/
def checkOf (beats : List Byte) : Byte := -(beats.foldl (· + ·) 0)

/-- The beats of a parcel: tag, length, body, check (R3, R18). -/
def Parcel.beats (p : Parcel) : List Byte :=
  let head := p.tag :: byteOf p.body.length :: p.body
  head ++ [checkOf head]

/-- Present a beat: data, MARK on the first, and TORQ asserted (R2). -/
def State.presentBeat (s : State) (t : Transmission) : State :=
  { s with
    trunkOut := { s.trunkOut with
      tod := t.parcel.beats.getD (t.beat - 1) 0, tomk := t.beat = 1, torq := true }
    tx := some { t with phase := .presented } }

/-- The transmitter takes a granted parcel (R18); after a line reset it waits for TOAK to be
deasserted before its first beat (R193). -/
def State.startParcelOut (s : State) (p : Parcel) (restart : Bool) : State :=
  let t : Transmission := { parcel := p, beat := 1, phase := .awaitLow, restart := restart }
  if s.toakWait then { s with tx := some t } else s.presentBeat t

/-- The host asserts TOAK for the beat presented: TORQ is deasserted (R2), and from then the levels of
TOD and TOMK are free (log 7). -/
def ackAsserted (s : State) : State :=
  if s.trunkOut.toak then s
  else
    let s1 := { s with trunkOut := { s.trunkOut with toak := true } }
    match s.tx with
    | some t =>
      (match t.phase with
       | .presented =>
         { s1 with
           trunkOut := { tod := Config.freeData s.freeIndex, tomk := Config.freeMark s.freeIndex,
                         torq := false, toak := true }
           freeIndex := s.freeIndex + 1
           tx := some { t with phase := .acknowledged } }
       | _ => s1)
    | none => s1

/-- The parcel in transmission has completed (R18): its storage is given back, and the response to
RESTART makes the restart take effect (R19). -/
def parcelSent (t : Transmission) (s : State) : State :=
  let s1 := { s with tx := none }
  let s2 := if t.restart then s1.push [.restart] else s1
  s2.giveBack (chanOf t.parcel.tag).isNone 1 (cellsFor t.parcel.body.length)

/-- The host deasserts TOAK: the beat is complete, and the next is presented or the parcel completes
(R2, R18). -/
def ackDeasserted (s : State) : State :=
  if s.trunkOut.toak then
    let s1 := { s with trunkOut := { s.trunkOut with toak := false }, toakWait := false }
    match s.tx with
    | some t =>
      (match t.phase with
       | .awaitLow => s1.presentBeat t
       | .acknowledged =>
         if t.beat < t.parcel.body.length + 3 then s1.presentBeat { t with beat := t.beat + 1 }
         else parcelSent t s1
       | .presented => s1)
    | none => s1
  else s

end Sys2Proof.Machine
end

