-- ==== Sys2Proof/Machine/Notices.lean ====
section
/-! DEFINITION. The return path (06_the_return_path_and_notices.md): the assembly of a notice parcel
and the Return Arbiter's grant. -/

namespace Sys2Proof.Machine

/-! ### Assembly -/

/-- The LOSS record of a notice, if LOST is above 0 (R124, R129). -/
def Notices.lossRecords (nb : Notices) : List Record := if nb.lost = 0 then [] else [.loss nb.lost]

/-- The channels with unreported credit, in channel order (R129). -/
def Notices.credited (nb : Notices) : List Chan :=
  allChans.filter fun c => decide (0 < nb.credits[c.val])

/-- The channels whose CREDIT records the next notice carries (R129). -/
def Notices.reported (nb : Notices) : List Chan :=
  nb.credited.take (Config.noticeRecords - nb.lossRecords.length)

/-- The records of the next notice: LOSS, then CREDIT, then FIFO records, 16 at most (R129). -/
def Notices.nextRecords (nb : Notices) : List Record :=
  (nb.lossRecords ++ nb.reported.map (fun c => Record.credit c nb.credits[c.val]) ++ nb.fifo).take
    Config.noticeRecords

/-- The Notice Builder once the next notice has taken its records (R129, R126): LOST 0, the reported
counts 0, the placed FIFO records gone, the serial advanced, the hold-off timer stopped or
restarted. -/
def Notices.assembled (nb : Notices) : Notices :=
  let placed := nb.lossRecords.length + nb.reported.length
  let credits := nb.reported.foldl
    (fun (v : Vector Nat 47) (c : Chan) => v.set c.val 0) nb.credits
  let nb1 := { nb with fifo := nb.fifo.drop (Config.noticeRecords - placed), credits := credits
                       lost := 0, serial := nb.serial + 1 }
  { nb1 with timer := if nb1.noCredit then .stopped else HoldOff.start nb1.holdOff }

/-- The body of the next notice: the serial and the records (R131). -/
def Notices.nextBody (nb : Notices) : List Byte :=
  nb.serial :: nb.nextRecords.flatMap Record.bytes

/-- The notice claimant is granted (R128): its storage is claimed with management standing and its
records are taken; refused storage leaves everything as it stood. -/
def grantNotice (s : State) : Option State :=
  match s.pool.claimManagement 1 (cellsFor s.notices.nextBody.length) with
  | none => none
  | some p =>
    some ({ s with
      pool := p, notices := s.notices.assembled
      arbiter := { s.arbiter with last := .notice } }.startParcelOut
        { tag := 48, body := s.notices.nextBody } false)

/-! ### The grant -/

/-- The express-run counter after an express grant (R121). -/
def runAfterExpress (run : Nat) (expressLeft normal : List Inbound) : Nat :=
  if normal = [] then (if expressLeft = [] then 0 else run) else min Config.expressRun (run + 1)

/-- The oldest normal parcel is granted (R120 cases 3 and 5, R121). -/
def grantNormal (x : Inbound) (rest : List Inbound) (s : State) : State :=
  { s with arbiter := { s.arbiter with normal := rest, run := 0, last := .normal } }.startParcelOut
    { tag := byteOf (chanNumber x.chan), body := x.body } false

/-- The oldest express parcel is granted (R120 case 4, R121). -/
def grantExpress (x : Inbound) (rest : List Inbound) (s : State) : State :=
  { s with arbiter := { s.arbiter with
      express := rest, run := runAfterExpress s.arbiter.run rest s.arbiter.normal
      last := .express } }.startParcelOut
    { tag := byteOf (chanNumber x.chan), body := x.body } false

/-- Cases 3 to 5 of the grant (R120). -/
def grantData (s : State) : State :=
  match s.arbiter.normal, s.arbiter.express with
  | x :: rest, [] => grantNormal x rest s
  | x :: rest, y :: rest' =>
    if s.arbiter.run = Config.expressRun then grantNormal x rest s else grantExpress y rest' s
  | [], y :: rest' => grantExpress y rest' s
  | [], [] => s

/-- Case 1 of the grant (R120): the oldest response, whose place in the queue is free from then on
(R116), so the engine may execute (R174). -/
def grantResponse (r : Response) (rest : List Response) (s : State) : State :=
  ({ s with arbiter := { s.arbiter with responses := rest, last := .response } }.startParcelOut
    { tag := 0, body := r.answer.bytes } r.restart).push [.engine]

/-- Case 2 of the grant is open to the notice claimant (R120, R127). -/
def State.noticeMayWin (s : State) : Bool :=
  s.eligible && (decide (s.arbiter.last ≠ .notice) ||
    (s.arbiter.express.isEmpty && s.arbiter.normal.isEmpty))

/-- The arbiter's decision at a parcel boundary (R119, R120). A restart whose response was not queued
takes effect at the first boundary with an empty response queue, before any grant (R191). -/
def arbitrate (s : State) : State :=
  match s.tx with
  | some _ => s
  | none =>
    match s.arbiter.responses with
    | r :: rest => grantResponse r rest s
    | [] =>
      if s.engine.restartDue then s.push [.restart]
      else if s.noticeMayWin then
        match grantNotice s with
        | some s' => s'
        | none => grantData s
      else grantData s

end Sys2Proof.Machine
end

