-- ==== Sys2Proof/Machine/Resets.lean ====
section
/-! DEFINITION. The two resets (10_status_counters_and_restart.md, sections 10.5 to 10.7): what a
restart and a line reset clear and keep. -/

namespace Sys2Proof.Machine

/-! ### Restart -/

/-- A spur column after a restart (R66, R96, R115): cut and disabled, its other settings kept. -/
def Column.restarted (c : Column) : Column :=
  { queue := []
    lane := Lane.cut { c.lane.config with enable := false } c.lane.ready c.lane.atn c.lane.dataIn
    gather := Gather.fresh }

/-- The four columns, each changed by f. -/
def State.mapColumns (s : State) (f : Column → Column) : State :=
  { s with columns := #v[f s.columns[0], f s.columns[1], f s.columns[2], f s.columns[3]] }

/-- A segment after a restart: READY, its contents kept (R168). -/
def Segment.restarted (g : Segment) : Segment := { g with state := .ready }

/-- The catalogue after a restart (R168). -/
def Store.restarted (st : Store) : Store :=
  { st with
    segments := (List.finRange 16).foldl
      (fun (v : Vector (Option Segment) 16) (h : Fin 16) =>
        v.set h.val (st.segments[h.val].map Segment.restarted)) st.segments
    contexts := Vector.replicate 4 none }

/-- The pool after a restart (R146): everything is free but the cells held by segments. -/
def Pool.restarted (p : Pool) : Pool :=
  { freeCells := Config.cells - p.segmentCells, freeDescriptors := Config.descriptors, mgmtCells := 0
    mgmtDescriptors := 0, segmentCells := p.segmentCells, waiting := [] }

/-- The receiver after a restart (R20): the gap limit kept, a break already declared in this interval
of the condition remembered, a running break timer afresh. -/
def Receiver.restarted (r : Receiver) : Receiver :=
  { state := .hunt, sum := 0, gapTimer := none, breakTimer := r.breakTimer, gapLimit := r.gapLimit,
    counts := TrunkCounts.zero }

/-- The Notice Builder after a restart, before STARTED is placed (R133); the hold-off is kept. -/
def Notices.restarted (nb : Notices) : Notices :=
  { fifo := [], credits := Vector.replicate 47 0, lost := 0, timer := .stopped
    holdOff := nb.holdOff, serial := 0 }

/-- The arbiter after a reset (R133, R134). -/
def Arbiter.fresh : Arbiter :=
  { responses := [], express := [], normal := [], run := 0, last := .none }

/-- The restart takes effect (R190), in one act: every block takes its restart state, the last reset
kind becomes 2, and STARTED with detail 2 is placed. What the old act had still to do is gone with
the traffic it was about; the arbiter then decides. -/
def restart (s : State) : State :=
  { s.mapColumns Column.restarted with
    rx := s.rx.restarted
    tx := none
    channels := Vector.replicate 47 Channel.fresh
    arbiter := Arbiter.fresh
    notices := s.notices.restarted.arrive (.started .restart)
    pool := s.pool.restarted
    store := s.store.restarted
    engine := Engine.fresh
    lastReset := .restart
    agenda := [.arbiter] }

/-! ### Line reset -/

/-- A spur column in line reset (R66, R96, R115, R192): cut, its configuration not yet at its
defaults. -/
def Column.lineReset (c : Column) : Column :=
  { queue := []
    lane := Lane.cut c.lane.config c.lane.ready c.lane.atn c.lane.dataIn
    gather := Gather.fresh }

/-- RESET_N is asserted (R192): the lines take their held levels and every block its line reset state;
the settings take their defaults at the release (R193). -/
def lineReset (s : State) : State :=
  { s.mapColumns Column.lineReset with
    inReset := true
    trunkIn := { s.trunkIn with tiak := false }
    trunkOut := { tod := 0, tomk := false, torq := false, toak := s.trunkOut.toak }
    toakWait := false
    rx := { Receiver.fresh with gapLimit := s.rx.gapLimit }
    tx := none
    channels := Vector.replicate 47 Channel.fresh
    arbiter := Arbiter.fresh
    notices := s.notices.restarted
    pool := Pool.fresh
    store := { Store.fresh with quota := s.store.quota }
    engine := Engine.fresh
    agenda := [] }

/-- A spur column when RESET_N is released (R193): its configuration at the defaults. -/
def Column.released (c : Column) : Column :=
  { c with lane := Lane.cut SpurConfig.default c.lane.ready c.lane.atn c.lane.dataIn }

/-- RESET_N is released (R193): the state that the line reset holds takes its defaults, the last reset
kind becomes 1, STARTED with detail 1 is placed, the break timer runs if its condition holds, and the
first presentation waits for TOAK to be deasserted. -/
def lineRelease (s0 : State) : State :=
  let s := lineReset s0
  { s.mapColumns Column.released with
    inReset := false
    toakWait := s.trunkOut.toak
    rx := { Receiver.fresh with
      breakTimer := BreakTimer.stopped.follow s.trunkIn.timk s.trunkIn.tirq }
    profiles := Vector.replicate 8 Profile.default
    notices := { s.notices with holdOff := 10 }.arrive (.started .line)
    store := Store.fresh
    lastReset := .line
    agenda := [.arbiter] }

end Sys2Proof.Machine
end

