-- ==== Sys2Proof/Machine/Management.lean ====
section
/-! DEFINITION. The Management Engine (09_the_management_channel.md): arrival, execution in turn, the
placement of responses, repeats; and the agenda that carries one act to its end. -/

namespace Sys2Proof.Machine

/-! ### Counters and codes -/

/-- Count in the management counters (R181). -/
def State.countEngine (s : State) (f : EngineCounts → EngineCounts) : State :=
  { s with engine := { s.engine with counts := f s.engine.counts } }

/-- The cells a request holds (R135). -/
def Request.cells (r : Request) : Nat := cellsFor (r.params.length + 2)

/-- The cells a response body needs (R140). -/
def Answer.cells (a : Answer) : Nat := cellsFor (a.results.length + 3)

/-! ### Arrival (R173) -/

/-- A good stored tag-0 parcel of at least two bytes is judged (R173 cases 2 to 4). -/
def requestArrival (code seq : Byte) (params : List Byte) (s : State) : State :=
  let free (s : State) : State := s.giveBack true 1 (cellsFor (params.length + 2))
  if s.engine.requests.any fun r => decide (r.seq = seq) then
    free (s.countEngine fun k => { k with duplicates := satInc k.duplicates })
  else if Config.requestDepth ≤ s.engine.requests.length then
    free ((s.record (.reqlost code seq)).countEngine fun k => { k with lost := satInc k.lost })
  else
    let r : Request := { code := code, seq := seq, params := params, discard := false }
    { s with engine := { s.engine with requests := s.engine.requests ++ [r] } }.push [.engine]

/-- A good stored tag-0 parcel arrives (R173). -/
def arrival (body : List Byte) (s : State) : State :=
  match body with
  | code :: seq :: params => requestArrival code seq params s
  | short =>
    (s.countEngine fun k => { k with malformed := satInc k.malformed }).giveBack true 1
      (cellsFor short.length)

/-! ### Execution (R174) -/

/-- The request's owning rule is applied (section 9.1, R171). -/
def executeRequest (code : Byte) (params : List Byte) (s : State) : Reply :=
  match code.toNat with
  | 1 => identify params s
  | 2 => readStatus params s
  | 3 => resetCounters params s
  | 4 => restartRequest params s
  | 5 => setTrunk params s
  | 6 => setProfile params s
  | 7 => readProfile params s
  | 8 => setSpur params s
  | 9 => readSpur params s
  | 10 => openChannel params s
  | 11 => closeChannel params s
  | 12 => haltChannel params s
  | 13 => resumeChannel params s
  | 14 => readChannel params s
  | 15 => setTee params s
  | 16 => createSegment params s
  | 17 => writeSegment params s
  | 18 => readSegment params s
  | 19 => deleteSegment params s
  | 20 => listSegments params s
  | 21 => playSegment params s
  | 22 => stopPlay params s
  | 23 => setQuota params s
  | _ => s.refuse .malformed

/-- The answer with status FULL and no results, for which storage was refused (R140). -/
def Answer.full (a : Answer) : Answer := { a with status := .full, results := [] }

/-- The answer that the request's storage and the pool allow, with the pool after it (R140): the
request's cells that are not needed are given back, a shortfall is claimed with management standing,
and a refused shortfall leaves FULL in the first cell. -/
def fitAnswer (r : Request) (a : Answer) (p : Pool) : Answer × Pool :=
  if a.cells ≤ r.cells then (a, p.put true 0 (r.cells - a.cells))
  else match p.claimManagement 0 (a.cells - r.cells) with
    | some p' => (a, p')
    | none => (a.full, p.put true 0 (r.cells - 1))

/-- A response joins the response queue in its request's storage, and the request leaves (R140, R174,
R178); `remember` replaces the remembered response. -/
def queueAnswer (r : Request) (a : Answer) (isRestart remember : Bool) (s : State) : State :=
  let x := fitAnswer r a s.pool
  let queued : Response := { answer := x.1, restart := isRestart }
  ({ s with
    pool := x.2
    arbiter := { s.arbiter with responses := s.arbiter.responses ++ [queued] }
    engine := { s.engine with
      requests := s.engine.requests.drop 1
      remembered := if remember then some x.1 else s.engine.remembered } }.handRecords).push
    [.serve, .engine]

/-- The response of a request that a break has marked is not queued: its storage is given back and the
remembered response stays as the break left it (R174, R180). A RESTART then waits for a parcel
boundary (R191). -/
def dropAnswer (r : Request) (isRestart : Bool) (s : State) : State :=
  ({ s with engine := { s.engine with
      requests := s.engine.requests.drop 1
      restartDue := s.engine.restartDue || isRestart } }.handRecords.push [.engine]).giveBack true 1
    r.cells

/-- Steps 4 and 5 of an execution (R174). -/
def respond (status : Status) (results : List Byte) (s : State) : State :=
  match s.engine.requests with
  | [] => s.handRecords
  | r :: _ =>
    let isRestart := decide (r.code = 4 ∧ status = .ok)
    if r.discard then dropAnswer r isRestart s
    else queueAnswer r { code := r.code, seq := r.seq, status := status, results := results }
      isRestart true s

/-- A request that repeats the remembered response is answered with a copy of it (R178). -/
def repeatAnswer (r : Request) (a : Answer) (s : State) : State :=
  let s1 := s.countEngine fun k => { k with repeats := satInc k.repeats }
  if r.discard then dropAnswer r false s1 else queueAnswer r a false false s1

/-- The remembered response matches the request (R174 step 2). -/
def Engine.repeats (e : Engine) (r : Request) : Option Answer :=
  match e.remembered with
  | some a => if a.code = r.code ∧ a.seq = r.seq then some a else none
  | none => none

/-- The execution of a request that is no repeat (R174 steps 3 to 5): its effects are made, what
follows from them is carried out, and its response is placed. -/
def execution (r : Request) (s : State) : State :=
  let rest := s.agenda
  let x := executeRequest r.code r.params
    { s with agenda := [], engine := { s.engine with records := some [] } }
  { x.state with agenda := x.state.agenda ++ Job.respond x.status x.results :: rest }

/-- The engine executes its oldest request if the restart hold is clear and a response slot is free
(R174, R177). -/
def engineTurn (s : State) : State :=
  if s.engine.hold || s.engine.records.isSome then s
  else if Config.responseDepth ≤ s.arbiter.responses.length then s
  else match s.engine.requests with
    | [] => s
    | r :: _ =>
      match s.engine.repeats r with
      | some a => repeatAnswer r a s
      | none => execution r s

/-! ### One act -/

/-- Take one rule of the act in progress. After a lane decision that was put behind the rest the arbiter
decides again, since the decision may make a claimant able to win at an idle boundary (R119, R127). -/
def doJob : Job → State → State
  | .takeTag d, s => takeTag d s
  | .dropReport c r, s => dropReport c r s
  | .arrival b, s => arrival b s
  | .acceptance c b, s => acceptance c b s
  | .acceptanceDrop c r, s => acceptanceDrop c r s
  | .capture c b, s => capture c b s
  | .engine, s => engineTurn s
  | .respond st res, s => respond st res s
  | .breakTold, s => breakTold s
  | .serve, s => serve s
  | .work n, s => work n s
  | .decide n, s => decideLane n s
  | .parcelEnd n, s => parcelEnd n s
  | .parcelEndLater n, s => parcelEnd n (s.push [.arbiter])
  | .tellContext i, s => tellContext i s
  | .testContext i, s => testContext i s
  | .pauseContext c, s => pauseContext c s
  | .resumeContext c, s => resumeContext c s
  | .drainTest c, s => drainTest c s
  | .acknowledge n, s => acknowledge n s
  | .beatEnd n, s => beatEnd n s
  | .idleIn n, s => idleIn n s
  | .takeBeats n, s => takeBeats n s
  | .closeGather n k, s => closeGather n k s
  | .retake n, s => retake n s
  | .yieldOut n, s => yieldOut n s
  | .stopTaking n, s => stopTaking n s
  | .dropWaiting n, s => dropWaiting n s
  | .dropGather n, s => dropGather n s
  | .dropTee c, s => dropTee c s
  | .endContext c, s => endContext c s
  | .removePlayback i, s => removePlayback i s
  | .freeContext i r, s => freeContext i r s
  | .discardQueued c, s => discardQueued c s
  | .inboundStall n c k, s => inboundStallRest n c k s
  | .restart, s => restart s
  | .arbiter, s => arbitrate s

/-- The job is a rule put behind the rest of the act. -/
def Job.isLater : Job → Bool
  | .parcelEndLater _ => true
  | _ => false

/-- Carry out the agenda until it is empty or holds only rules put behind the rest, at most `fuel` rules
of it (log 2). -/
def run : Nat → State → State
  | 0, s => s
  | fuel + 1, s =>
    match s.agenda with
    | [] => s
    | j :: rest => if j.isLater then s else run fuel (doJob j { s with agenda := rest })

/-- Take up at most `fuel` of the rules put behind the rest, and after each all that follows from it. The
act is cut only here, where nothing but such rules is left (log 2). -/
def goOn : Nat → State → State
  | 0, s => s
  | fuel + 1, s =>
    match s.agenda with
    | [] => s
    | j :: rest => goOn fuel (run Config.actBound (doJob j { s with agenda := rest }))

/-- Carry the agenda out: the act's own rules, then those put behind them (log 2). -/
def State.carryOut (s : State) : State := goOn Config.endlessBound (run Config.actBound s)

/-- One act: a command's first effects, then everything that follows from them, the arbiter last
(log 2). While RESET_N is asserted no command acts (R192). -/
def State.act (s : State) (f : State → State) : Host.Outcome State Fault Refusal :=
  if s.inReset then .next s
  else .next (f (s.push [.arbiter])).carryOut

end Sys2Proof.Machine
end

