-- ==== Sys2Proof/WellFormed.lean ====
section
/-! DEFINITION. Which terms of Instr spell a command: a request's body is at most 240 bytes (R3), and
UNKNOWN_REQUEST carries a code that names no request (R171); and the body a request hands over. -/

namespace Sys2Proof

/-- The parameters fit in a request body beside the code and the sequence (R3). -/
def paramsFit (params : List Byte) : Bool := params.length + 2 ≤ Config.maxBody

/-- The code names none of the 23 requests (R171). -/
def unknownCode (code : Byte) : Bool := code.toNat = 0 ∨ 24 ≤ code.toNat

/-- The term spells a command. -/
def WellFormed : Instr → Bool
  | .identify _ params => paramsFit params
  | .readStatus _ params => paramsFit params
  | .resetCounters _ params => paramsFit params
  | .restart _ params => paramsFit params
  | .setTrunk _ params => paramsFit params
  | .setProfile _ params => paramsFit params
  | .readProfile _ params => paramsFit params
  | .setSpur _ params => paramsFit params
  | .readSpur _ params => paramsFit params
  | .openChannel _ params => paramsFit params
  | .closeChannel _ params => paramsFit params
  | .haltChannel _ params => paramsFit params
  | .resumeChannel _ params => paramsFit params
  | .readChannel _ params => paramsFit params
  | .setTee _ params => paramsFit params
  | .createSegment _ params => paramsFit params
  | .writeSegment _ params => paramsFit params
  | .readSegment _ params => paramsFit params
  | .deleteSegment _ params => paramsFit params
  | .listSegments _ params => paramsFit params
  | .playSegment _ params => paramsFit params
  | .stopPlay _ params => paramsFit params
  | .setQuota _ params => paramsFit params
  | .unknownRequest code _ params => unknownCode code && paramsFit params
  | .repeatAnswer _ _ params => paramsFit params
  | .trunkInBeat _ _ => true
  | .tirqDeasserted => true
  | .gapTimerExpiry => true
  | .breakConditionChange _ _ => true
  | .trunkBreak => true
  | .toakAsserted => true
  | .toakDeasserted => true
  | .snrdyChange _ _ _ => true
  | .snatnChange _ _ => true
  | .setupTimeElapsed _ => true
  | .strobeWidthElapsed _ _ => true
  | .pacingIntervalElapsed _ => true
  | .ackLimitExpiry _ => true
  | .turnInComplete _ => true
  | .turnOutComplete _ => true
  | .yieldTimerExpiry _ => true
  | .idleTimerExpiry _ => true
  | .spacingTimerElapsed _ => true
  | .holdOffExpiry => true
  | .resetNAsserted => true
  | .resetNReleased => true

/-- The parcel body a command hands to the Management Engine (R170); no other command hands one. -/
def Instr.requestBody : Instr → Option (List Byte)
  | .trunkInBeat _ _ => none
  | .tirqDeasserted => none
  | .gapTimerExpiry => none
  | .breakConditionChange _ _ => none
  | .trunkBreak => none
  | .toakAsserted => none
  | .toakDeasserted => none
  | .identify seq params => some (1 :: seq :: params)
  | .readStatus seq params => some (2 :: seq :: params)
  | .resetCounters seq params => some (3 :: seq :: params)
  | .restart seq params => some (4 :: seq :: params)
  | .setTrunk seq params => some (5 :: seq :: params)
  | .setProfile seq params => some (6 :: seq :: params)
  | .readProfile seq params => some (7 :: seq :: params)
  | .setSpur seq params => some (8 :: seq :: params)
  | .readSpur seq params => some (9 :: seq :: params)
  | .openChannel seq params => some (10 :: seq :: params)
  | .closeChannel seq params => some (11 :: seq :: params)
  | .haltChannel seq params => some (12 :: seq :: params)
  | .resumeChannel seq params => some (13 :: seq :: params)
  | .readChannel seq params => some (14 :: seq :: params)
  | .setTee seq params => some (15 :: seq :: params)
  | .createSegment seq params => some (16 :: seq :: params)
  | .writeSegment seq params => some (17 :: seq :: params)
  | .readSegment seq params => some (18 :: seq :: params)
  | .deleteSegment seq params => some (19 :: seq :: params)
  | .listSegments seq params => some (20 :: seq :: params)
  | .playSegment seq params => some (21 :: seq :: params)
  | .stopPlay seq params => some (22 :: seq :: params)
  | .setQuota seq params => some (23 :: seq :: params)
  | .unknownRequest code seq params => some (code :: seq :: params)
  | .repeatAnswer code seq params => some (code :: seq :: params)
  | .snrdyChange _ _ _ => none
  | .snatnChange _ _ => none
  | .setupTimeElapsed _ => none
  | .strobeWidthElapsed _ _ => none
  | .pacingIntervalElapsed _ => none
  | .ackLimitExpiry _ => none
  | .turnInComplete _ => none
  | .turnOutComplete _ => none
  | .yieldTimerExpiry _ => none
  | .idleTimerExpiry _ => none
  | .spacingTimerElapsed _ => none
  | .holdOffExpiry => none
  | .resetNAsserted => none
  | .resetNReleased => none

end Sys2Proof
end

