-- ==== Sys2Proof/Machine/RequestCommands.lean ====
section
/-! DEFINITION. The commands that hand a management request to the part: each is a good tag-0 parcel
whose body is the code, the sequence and the parameters (09_the_management_channel.md, R170; log 3).
The engine judges it (R173) and executes it in its turn (R174). -/

namespace Sys2Proof.Machine

/-- A good tag-0 parcel with this body reaches the Management Engine (R12): it holds a descriptor and
its cells with management standing (R4, R7), or, where the pool refuses them, it is a lost request
(R13). -/
def deliver (body : List Byte) (s : State) : State :=
  match s.pool.claimManagement 1 (cellsFor body.length) with
  | some p => { s with pool := p }.push [.arrival body]
  | none => lostRequest body s

/-- A request with this code, sequence and parameters (R170); parameters that no parcel can carry are
refused (R3, log 20). -/
def request (code seq : Byte) (params : List Byte) (s : State) :
    Host.Outcome State Fault Refusal :=
  if paramsFit params then s.act (deliver (code :: seq :: params)) else .refused .bodyTooLong

/-- IDENTIFY (R183): a request with code 1. -/
def execIdentify (seq : Byte) (params : List Byte) (s : State) : Host.Outcome State Fault Refusal :=
  request 1 seq params s

/-- READ_STATUS (R184): a request with code 2. -/
def execReadStatus (seq : Byte) (params : List Byte) (s : State) : Host.Outcome State Fault Refusal :=
  request 2 seq params s

/-- RESET_COUNTERS (R187): a request with code 3. -/
def execResetCounters (seq : Byte) (params : List Byte) (s : State) : Host.Outcome State Fault Refusal :=
  request 3 seq params s

/-- RESTART (R189): a request with code 4. -/
def execRestart (seq : Byte) (params : List Byte) (s : State) : Host.Outcome State Fault Refusal :=
  request 4 seq params s

/-- SET_TRUNK (R17): a request with code 5. -/
def execSetTrunk (seq : Byte) (params : List Byte) (s : State) : Host.Outcome State Fault Refusal :=
  request 5 seq params s

/-- SET_PROFILE (R77): a request with code 6. -/
def execSetProfile (seq : Byte) (params : List Byte) (s : State) : Host.Outcome State Fault Refusal :=
  request 6 seq params s

/-- READ_PROFILE (R78): a request with code 7. -/
def execReadProfile (seq : Byte) (params : List Byte) (s : State) : Host.Outcome State Fault Refusal :=
  request 7 seq params s

/-- SET_SPUR (R93): a request with code 8. -/
def execSetSpur (seq : Byte) (params : List Byte) (s : State) : Host.Outcome State Fault Refusal :=
  request 8 seq params s

/-- READ_SPUR (R95): a request with code 9. -/
def execReadSpur (seq : Byte) (params : List Byte) (s : State) : Host.Outcome State Fault Refusal :=
  request 9 seq params s

/-- OPEN_CHANNEL (R25): a request with code 10. -/
def execOpenChannel (seq : Byte) (params : List Byte) (s : State) : Host.Outcome State Fault Refusal :=
  request 10 seq params s

/-- CLOSE_CHANNEL (R30): a request with code 11. -/
def execCloseChannel (seq : Byte) (params : List Byte) (s : State) : Host.Outcome State Fault Refusal :=
  request 11 seq params s

/-- HALT_CHANNEL (R28): a request with code 12. -/
def execHaltChannel (seq : Byte) (params : List Byte) (s : State) : Host.Outcome State Fault Refusal :=
  request 12 seq params s

/-- RESUME_CHANNEL (R29): a request with code 13. -/
def execResumeChannel (seq : Byte) (params : List Byte) (s : State) : Host.Outcome State Fault Refusal :=
  request 13 seq params s

/-- READ_CHANNEL (R40): a request with code 14. -/
def execReadChannel (seq : Byte) (params : List Byte) (s : State) : Host.Outcome State Fault Refusal :=
  request 14 seq params s

/-- SET_TEE (R42): a request with code 15. -/
def execSetTee (seq : Byte) (params : List Byte) (s : State) : Host.Outcome State Fault Refusal :=
  request 15 seq params s

/-- CREATE_SEGMENT (R151): a request with code 16. -/
def execCreateSegment (seq : Byte) (params : List Byte) (s : State) : Host.Outcome State Fault Refusal :=
  request 16 seq params s

/-- WRITE_SEGMENT (R152): a request with code 17. -/
def execWriteSegment (seq : Byte) (params : List Byte) (s : State) : Host.Outcome State Fault Refusal :=
  request 17 seq params s

/-- READ_SEGMENT (R153): a request with code 18. -/
def execReadSegment (seq : Byte) (params : List Byte) (s : State) : Host.Outcome State Fault Refusal :=
  request 18 seq params s

/-- DELETE_SEGMENT (R154): a request with code 19. -/
def execDeleteSegment (seq : Byte) (params : List Byte) (s : State) : Host.Outcome State Fault Refusal :=
  request 19 seq params s

/-- LIST_SEGMENTS (R155): a request with code 20. -/
def execListSegments (seq : Byte) (params : List Byte) (s : State) : Host.Outcome State Fault Refusal :=
  request 20 seq params s

/-- PLAY_SEGMENT (R160): a request with code 21. -/
def execPlaySegment (seq : Byte) (params : List Byte) (s : State) : Host.Outcome State Fault Refusal :=
  request 21 seq params s

/-- STOP_PLAY (R166): a request with code 22. -/
def execStopPlay (seq : Byte) (params : List Byte) (s : State) : Host.Outcome State Fault Refusal :=
  request 22 seq params s

/-- SET_QUOTA (R156): a request with code 23. -/
def execSetQuota (seq : Byte) (params : List Byte) (s : State) : Host.Outcome State Fault Refusal :=
  request 23 seq params s

/-- UNKNOWN_REQUEST (R171): a request with a code that names none; a code 1 to 23 is refused
(log 20). -/
def execUnknownRequest (code seq : Byte) (params : List Byte) (s : State) :
    Host.Outcome State Fault Refusal :=
  if unknownCode code then request code seq params s else .refused .codeOfARequest

/-- REPEAT_ANSWER (R178): the host sends a request again; the engine answers it from the remembered
response if that matches it, and executes it otherwise. -/
def execRepeatAnswer (code seq : Byte) (params : List Byte) (s : State) :
    Host.Outcome State Fault Refusal :=
  request code seq params s

end Sys2Proof.Machine
end

