-- ==== Sys2Proof/Machine/SpurCommands.lean ====
section
/-! DEFINITION. The commands of the spur lines and of the timers of lanes, Gather Units and playback
contexts (04_spur_lanes_and_disciplines.md, 05, 08). -/

namespace Sys2Proof.Machine

/-- The peripheral's levels of SnRDY and of the data lines on spur n. -/
def State.setReady (s : State) (n : Spur) (ready : Bool) (data : Byte) : State :=
  s.setLane n { s.lane n with ready := ready, dataIn := data }

/-- The peripheral's level of SnATN on spur n. -/
def State.setAtn (s : State) (n : Spur) (asserted : Bool) : State :=
  s.setLane n { s.lane n with atn := asserted }

/-- The peripheral's levels of the data lines on spur n. -/
def State.setDataIn (s : State) (n : Spur) (data : Byte) : State :=
  s.setLane n { s.lane n with dataIn := data }

/-- SNRDY_CHANGE (R86, R81, R82, R84): the levels move, and a change of SnRDY advances the beat in
progress or begins an inbound one. -/
def execSnrdyChange (spur : Spur) (ready : Bool) (data : Byte) (s : State) :
    Host.Outcome State Fault Refusal :=
  if s.inReset then .next (s.setReady spur ready data)
  else s.act fun t =>
    let t1 := t.setReady spur ready data
    if (s.lane spur).ready = ready then t1 else readyChanged spur t1

/-- SNATN_CHANGE (R72): the level moves, and a change makes an idle lane decide again (R71). -/
def execSnatnChange (spur : Spur) (asserted : Bool) (s : State) :
    Host.Outcome State Fault Refusal :=
  if s.inReset then .next (s.setAtn spur asserted)
  else s.act fun t =>
    let t1 := t.setAtn spur asserted
    if (s.lane spur).atn = asserted then t1 else t1.push [.decide spur]

/-- SETUP_TIME_ELAPSED (R81). -/
def execSetupTimeElapsed (spur : Spur) (s : State) : Host.Outcome State Fault Refusal :=
  s.act (setupElapsed spur)

/-- STROBE_WIDTH_ELAPSED (R82, R83, R89, R90), with the data levels at that moment (log 6). -/
def execStrobeWidthElapsed (spur : Spur) (data : Byte) (s : State) :
    Host.Outcome State Fault Refusal :=
  if s.inReset then .next (s.setDataIn spur data)
  else s.act fun t => strobeElapsed spur (t.setDataIn spur data)

/-- PACING_INTERVAL_ELAPSED (R83, R90). -/
def execPacingIntervalElapsed (spur : Spur) (s : State) : Host.Outcome State Fault Refusal :=
  s.act (pacingElapsed spur)

/-- ACK_LIMIT_EXPIRY (R80, R88). -/
def execAckLimitExpiry (spur : Spur) (s : State) : Host.Outcome State Fault Refusal :=
  s.act (ackExpired spur)

/-- TURN_IN_COMPLETE (R68). -/
def execTurnInComplete (spur : Spur) (s : State) : Host.Outcome State Fault Refusal :=
  s.act (turnInDone spur)

/-- TURN_OUT_COMPLETE (R69). -/
def execTurnOutComplete (spur : Spur) (s : State) : Host.Outcome State Fault Refusal :=
  s.act (turnOutDone spur)

/-- YIELD_TIMER_EXPIRY (R75). -/
def execYieldTimerExpiry (spur : Spur) (s : State) : Host.Outcome State Fault Refusal :=
  s.act (yieldExpired spur)

/-- IDLE_TIMER_EXPIRY (R106). -/
def execIdleTimerExpiry (spur : Spur) (s : State) : Host.Outcome State Fault Refusal :=
  s.act (idleExpired spur)

/-- SPACING_TIMER_ELAPSED (R161). -/
def execSpacingTimerElapsed (context : Context) (s : State) : Host.Outcome State Fault Refusal :=
  s.act (spacingElapsed context)

end Sys2Proof.Machine
end

