-- ==== Sys2Proof/Machine/TrunkCommands.lean ====
section
/-! DEFINITION. The commands of the trunk lines and of the receiver's timers
(01_parcels_and_the_trunk.md). -/

namespace Sys2Proof.Machine

/-- TIRQ rises: the part latches the byte and the MARK level, asserts TIAK, and the beat reaches the
receiver (R1). -/
def latchBeat (mark : Bool) (data : Byte) (s : State) : State :=
  let s1 := s.moveTrunkIn data mark true
  rxBeat mark data { s1 with trunkIn := { s1.trunkIn with tiak := true } }

/-- TIRQ falls: the part deasserts TIAK (R1), and the break timer follows (R15). -/
def dropRequest (timk : Bool) (s : State) : State :=
  let s1 := s.moveTrunkIn s.trunkIn.tid timk false
  { s1 with trunkIn := { s1.trunkIn with tiak := false } }

/-- TRUNK_IN_BEAT (R1): with TIRQ deasserted before, a beat is latched. With TIRQ still asserted
nothing more is latched (log 5), and under RESET_N nothing is (R192). -/
def execTrunkInBeat (mark : Bool) (data : Byte) (s : State) : Host.Outcome State Fault Refusal :=
  if s.inReset then .next (s.moveTrunkIn data mark true)
  else s.act (if s.trunkIn.tirq then (·.moveTrunkIn data mark true) else latchBeat mark data)

/-- TIRQ_DEASSERTED (R1). -/
def execTirqDeasserted (s : State) : Host.Outcome State Fault Refusal :=
  if s.inReset then .next (dropRequest s.trunkIn.timk s) else s.act (dropRequest s.trunkIn.timk)

/-- GAP_TIMER_EXPIRY (R10). -/
def execGapTimerExpiry (s : State) : Host.Outcome State Fault Refusal := s.act gapExpiry

/-- BREAK_CONDITION_CHANGE (R15): TIMK and TIRQ take these levels with TID as it stands. A rise of TIRQ
is a beat and a fall of TIRQ ends one, as R1 has them. -/
def execBreakConditionChange (timk tirq : Bool) (s : State) : Host.Outcome State Fault Refusal :=
  if s.inReset then
    .next (if tirq then s.moveTrunkIn s.trunkIn.tid timk true else dropRequest timk s)
  else s.act (
    if tirq then
      (if s.trunkIn.tirq then (·.moveTrunkIn s.trunkIn.tid timk true)
       else latchBeat timk s.trunkIn.tid)
    else dropRequest timk)

/-- TRUNK_BREAK (R16). -/
def execTrunkBreak (s : State) : Host.Outcome State Fault Refusal := s.act declareBreak

/-- TOAK_ASSERTED (R2); under RESET_N only the level is kept (R192). -/
def execToakAsserted (s : State) : Host.Outcome State Fault Refusal :=
  if s.inReset then .next { s with trunkOut := { s.trunkOut with toak := true } }
  else s.act ackAsserted

/-- TOAK_DEASSERTED (R2); under RESET_N only the level is kept (R192). -/
def execToakDeasserted (s : State) : Host.Outcome State Fault Refusal :=
  if s.inReset then .next { s with trunkOut := { s.trunkOut with toak := false } }
  else s.act ackDeasserted

end Sys2Proof.Machine
end

