-- ==== Sys2Proof/Machine/WholeCommands.lean ====
section
/-! DEFINITION. The commands of the notice hold-off timer (R126) and of RESET_N (R192, R193). -/

namespace Sys2Proof.Machine

/-- The hold-off timer expires if it runs (R126). -/
def holdOffExpired (s : State) : State :=
  match s.notices.timer with
  | .running _ => { s with notices := { s.notices with timer := .expired } }
  | .stopped | .expired => s

/-- HOLD_OFF_EXPIRY (R126). -/
def execHoldOffExpiry (s : State) : Host.Outcome State Fault Refusal := s.act holdOffExpired

/-- RESET_N_ASSERTED (R192). -/
def execResetNAsserted (s : State) : Host.Outcome State Fault Refusal := .next (lineReset s)

/-- RESET_N_RELEASED (R193): out of line reset, and the arbiter's first decision (R134). With RESET_N
not asserted there is no release and nothing changes. -/
def execResetNReleased (s : State) : Host.Outcome State Fault Refusal :=
  if s.inReset then .next (lineRelease s).carryOut else .next s

end Sys2Proof.Machine
end

