-- ==== Sys2Proof/Machine/Dispatch.lean ====
section
/-! DEFINITION. One arm per command: its meaning. -/

namespace Sys2Proof.Machine

def exec (i : Instr) (s : State) : Host.Outcome State Fault Refusal :=
  match i with
  | .trunkInBeat mark data => Sys2Proof.Machine.execTrunkInBeat mark data s
  | .tirqDeasserted => Sys2Proof.Machine.execTirqDeasserted s
  | .gapTimerExpiry => Sys2Proof.Machine.execGapTimerExpiry s
  | .breakConditionChange timk tirq => Sys2Proof.Machine.execBreakConditionChange timk tirq s
  | .trunkBreak => Sys2Proof.Machine.execTrunkBreak s
  | .toakAsserted => Sys2Proof.Machine.execToakAsserted s
  | .toakDeasserted => Sys2Proof.Machine.execToakDeasserted s
  | .identify seq params => Sys2Proof.Machine.execIdentify seq params s
  | .readStatus seq params => Sys2Proof.Machine.execReadStatus seq params s
  | .resetCounters seq params => Sys2Proof.Machine.execResetCounters seq params s
  | .restart seq params => Sys2Proof.Machine.execRestart seq params s
  | .setTrunk seq params => Sys2Proof.Machine.execSetTrunk seq params s
  | .setProfile seq params => Sys2Proof.Machine.execSetProfile seq params s
  | .readProfile seq params => Sys2Proof.Machine.execReadProfile seq params s
  | .setSpur seq params => Sys2Proof.Machine.execSetSpur seq params s
  | .readSpur seq params => Sys2Proof.Machine.execReadSpur seq params s
  | .openChannel seq params => Sys2Proof.Machine.execOpenChannel seq params s
  | .closeChannel seq params => Sys2Proof.Machine.execCloseChannel seq params s
  | .haltChannel seq params => Sys2Proof.Machine.execHaltChannel seq params s
  | .resumeChannel seq params => Sys2Proof.Machine.execResumeChannel seq params s
  | .readChannel seq params => Sys2Proof.Machine.execReadChannel seq params s
  | .setTee seq params => Sys2Proof.Machine.execSetTee seq params s
  | .createSegment seq params => Sys2Proof.Machine.execCreateSegment seq params s
  | .writeSegment seq params => Sys2Proof.Machine.execWriteSegment seq params s
  | .readSegment seq params => Sys2Proof.Machine.execReadSegment seq params s
  | .deleteSegment seq params => Sys2Proof.Machine.execDeleteSegment seq params s
  | .listSegments seq params => Sys2Proof.Machine.execListSegments seq params s
  | .playSegment seq params => Sys2Proof.Machine.execPlaySegment seq params s
  | .stopPlay seq params => Sys2Proof.Machine.execStopPlay seq params s
  | .setQuota seq params => Sys2Proof.Machine.execSetQuota seq params s
  | .unknownRequest code seq params => Sys2Proof.Machine.execUnknownRequest code seq params s
  | .repeatAnswer code seq params => Sys2Proof.Machine.execRepeatAnswer code seq params s
  | .snrdyChange spur ready data => Sys2Proof.Machine.execSnrdyChange spur ready data s
  | .snatnChange spur asserted => Sys2Proof.Machine.execSnatnChange spur asserted s
  | .setupTimeElapsed spur => Sys2Proof.Machine.execSetupTimeElapsed spur s
  | .strobeWidthElapsed spur data => Sys2Proof.Machine.execStrobeWidthElapsed spur data s
  | .pacingIntervalElapsed spur => Sys2Proof.Machine.execPacingIntervalElapsed spur s
  | .ackLimitExpiry spur => Sys2Proof.Machine.execAckLimitExpiry spur s
  | .turnInComplete spur => Sys2Proof.Machine.execTurnInComplete spur s
  | .turnOutComplete spur => Sys2Proof.Machine.execTurnOutComplete spur s
  | .yieldTimerExpiry spur => Sys2Proof.Machine.execYieldTimerExpiry spur s
  | .idleTimerExpiry spur => Sys2Proof.Machine.execIdleTimerExpiry spur s
  | .spacingTimerElapsed context => Sys2Proof.Machine.execSpacingTimerElapsed context s
  | .holdOffExpiry => Sys2Proof.Machine.execHoldOffExpiry s
  | .resetNAsserted => Sys2Proof.Machine.execResetNAsserted s
  | .resetNReleased => Sys2Proof.Machine.execResetNReleased s

end Sys2Proof.Machine
end

