-- ==== Sys2Proof/Machine/Step.lean ====
section
/-! DEFINITION. One step: the command at the front of the queue, or, with none waiting, whatever an
act that was cut has still to do (log 1, log 2). -/

namespace Sys2Proof.Machine

/-- Take the command at the front of the queue and carry it out. With none waiting the part idles: the
agenda is empty but for an act that was cut, which goes on.
DESIGN CHOICE, safe (log 1): commands are taken first in, first out. -/
def step (s : State) : Host.Outcome State Fault Refusal :=
  match s.pending with
  | [] => .next s.carryOut
  | c :: rest => exec c { s with pending := rest }

/-- The state with the command that a word spells at the front of the queue; no word spells one, so
the state itself (log 21). -/
def State.withFetchWord (s : State) (nbits w : Nat) : State :=
  match decodeTableWord nbits w with
  | some c => { s with pending := c :: s.pending }
  | none => s

end Sys2Proof.Machine
end

