-- ==== Sys2Proof/Safety.lean ====
section
/-! DEFINITION. The conditions and the laws that the statements speak of: a state in which a command
runs alone, the state once a request has been answered, and the laws of the spec that every step
keeps. -/

namespace Sys2Proof.Machine

/-! ### States in which a command's effect stands alone -/

/-- The part is out of reset, owes nothing from an earlier act, has a parcel in transmission (so that
the arbiter grants nothing, R119) and has no waiter for the pool (so that a give-back serves nobody,
R143). -/
structure Settled (s : State) : Prop where
  live : s.inReset = false
  agenda : s.agenda = []
  busy : s.tx.isSome = true
  alone : s.pool.waiting = []

/-- The Management Engine would execute a request with this code and sequence at once (R174): it holds
none, the restart hold is clear, a response slot is free, the remembered response is not a match, and
the pool holds the request's and the response's storage. `req` and `res` are the numbers of parameter
and of result bytes. -/
structure Ready (s : State) (code seq : Byte) (req res : Nat) : Prop where
  idle : s.engine.requests = []
  free : s.engine.hold = false
  between : s.engine.records = none
  slot : s.arbiter.responses.length < Config.responseDepth
  fresh : ∀ a, s.engine.remembered = some a → ¬ (a.code = code ∧ a.seq = seq)
  descriptor : 1 ≤ s.pool.freeDescriptors
  requestCells : cellsFor (req + 2) ≤ s.pool.freeCells
  responseCells : cellsFor (res + 3) ≤ s.pool.freeCells

/-- The pool once a parcel of n body bytes with management standing holds its storage (R136). -/
def Pool.holding (p : Pool) (n : Nat) : Pool :=
  { p with freeDescriptors := p.freeDescriptors - 1, freeCells := p.freeCells - cellsFor n
           mgmtDescriptors := p.mgmtDescriptors + 1, mgmtCells := p.mgmtCells + cellsFor n }

/-- The state once a request has been executed with the effect that makes t, and answered: its
response stands at the tail of the response queue in storage of its own, and is the remembered
response (R140, R174). -/
def State.answered (t : State) (code seq : Byte) (status : Status) (results : List Byte) : State :=
  let a : Answer := { code := code, seq := seq, status := status, results := results }
  { t with
    pool := t.pool.holding (results.length + 3)
    arbiter := { t.arbiter with
      responses := t.arbiter.responses ++ [{ answer := a, restart := decide (code = 4 ∧ status = .ok) }] }
    engine := { t.engine with remembered := some a } }

/-- A response in the response queue. -/
def reply (code seq : Byte) (status : Status) (results : List Byte) (restart : Bool) : Response :=
  { answer := { code := code, seq := seq, status := status, results := results }, restart := restart }

/-- What every request has in common while it is executed: the state in which its rule is applied,
with the request held in its storage and the records of the execution held back (R173, R176). -/
def State.executing (s : State) (code seq : Byte) (params : List Byte) : State :=
  { s with
    pool := s.pool.holding (params.length + 2)
    engine := { s.engine with
      requests := [{ code := code, seq := seq, params := params, discard := false }]
      records := some [] }
    agenda := [] }

/-- The parameters are not what a request with this code takes, by the first check of each request's
rule; a code that names no request takes none (R171). -/
def wrongParams (code : Nat) (params : List Byte) : Bool :=
  match code with
  | 1 | 2 | 3 | 4 | 20 => params.length ≠ 0
  | 7 | 9 | 12 | 13 | 14 | 19 | 22 => params.length ≠ 1
  | 5 | 11 | 15 | 23 => params.length ≠ 2
  | 18 => params.length ≠ 3
  | 21 => params.length ≠ 4
  | 8 => params.length ≠ 6
  | 6 => params.length ≠ 8
  | 10 => params.length ≠ 11
  | 16 => params.length < 3 ∨ params.length ≠ 3 + (params.getD 2 0).toNat
  | 17 => params.length = 0
  | _ => true

/-- The state once a beat has been latched on trunk-in (R1): TIRQ and TIAK stand asserted with the beat
on the lines, and the break timer is stopped and cleared (R15). -/
def State.latched (s : State) (mark : Bool) (data : Byte) : State :=
  { s with
    trunkIn := { tid := data, timk := mark, tirq := true, tiak := true }
    rx := { s.rx with breakTimer := .stopped } }

/-- The state once the receiver has given up parcel p: its storage is given back (R11, R141), and for a
data tag the Channel Map has acted on the drop report (R13, R49). -/
def State.abandoned (s : State) (p : Reception) (r : DropReason) : State :=
  let t : State := { s with
    pool := match p.stored with
      | none => s.pool
      | some bs => s.pool.put (p.tag = 0) 1 (cellsFor bs.length) }
  match chanOf p.tag with
  | none => t
  | some c => dropReport c r t

/-! ### The end of an outbound parcel -/

/-- Command c ends the last beat of the parcel on spur n (R57, R81 to R84). -/
def LastBeatEnds (s : State) (n : Spur) (x : Sending) (c : Instr) : Prop :=
  let l := s.lane n
  l.state = .sending ∧ l.sending = some x ∧ x.done + 1 = x.parcel.body.length ∧
  match x.snap.discipline with
  | .interlock => x.phase = .waitReturn ∧ l.ready = false ∧ ∃ d, c = .snrdyChange n true d
  | .gated => x.phase = .strobe ∧ ∃ d, c = .strobeWidthElapsed n d
  | .paced => (x.phase = .pulse true false ∧ ∃ d, c = .strobeWidthElapsed n d) ∨
      (x.phase = .pulse false true ∧ c = .pacingIntervalElapsed n)
  | .toggle => x.phase = .waitToggle ∧ l.reference = some l.ready ∧ ∃ d, c = .snrdyChange n (!l.ready) d

/-- What every completion of a parcel of spur n leaves in t (R59, R60): its storage given back, the
channel's counters raised, and the rest of the part as it stood in s. -/
structure Delivered (s t : State) (n : Spur) (e : Outbound) : Prop where
  storage : t.pool = s.pool.put false 1 (cellsFor e.body.length)
  parcels : (t.channel e.chan).parcels = (s.channel e.chan).parcels + 1
  bytes : (t.channel e.chan).bytes = (s.channel e.chan).bytes + BitVec.ofNat 32 e.body.length
  drops : (t.channel e.chan).drops = (s.channel e.chan).drops
  others : ∀ c, c ≠ e.chan → t.channel c = s.channel c ∧ t.credit c = s.credit c
  columns : ∀ m, m ≠ n → t.column m = s.column m
  gather : t.gather n = s.gather n
  path : t.rx = s.rx ∧ t.tx = s.tx ∧ t.arbiter = s.arbiter
  settings : t.engine = s.engine ∧ t.profiles = s.profiles

/-- The lane's decision at the end of a parcel (R72, R55), where no serviceable entry that waits in s is
of length 0: a heeded attention turns the lane in; otherwise the oldest serviceable entry is taken, past
the held ones, and without one the lane turns in or idles by its home direction. -/
def EndOfParcel (s t : State) (n : Spur) : Prop :=
  let l := s.lane n
  let turned : Prop :=
    (t.lane n).state = .turnIn ∧ (t.lane n).sending = none ∧ t.queue n = s.queue n
  (s.attentionHeard n = true → l.yieldOwed = false → turned) ∧
  (s.attentionHeard n = false ∨ l.yieldOwed = true → (t.lane n).yieldOwed = false ∧
    (s.outWork n = false →
      (l.config.home = .inward → turned) ∧
      (l.config.home = .outward → (t.lane n).state = .idleOut ∧ (t.lane n).sending = none ∧
        t.queue n = s.queue n)) ∧
    (∀ held e rest, s.queue n = held ++ e :: rest → (∀ y ∈ held, s.serviceable y = false) →
      s.serviceable e = true → t.queue n = held ++ rest ∧ (t.lane n).state = .sending ∧
        ∃ x, (t.lane n).sending = some x ∧ x.parcel = e ∧ x.done = 0 ∧
          ∀ k, s.link e.chan = some k → x.snap = s.profile k.profile))

/-! ### Capture, and the closure of a gather -/

/-- What the offer of a body to the tee of link l leaves (R47, R157, R158): the link, the store, the pool
and the Notice Builder. An entry that passes the four tests of R149 joins the segment; one that does not
unbinds the tee, makes the segment READY and makes a CAPFULL record. -/
def Captured (s : State) (l : Link) (body : List Byte) (link : Link) (store : Store) (p : Pool)
    (nb : Notices) : Prop :=
  (l.tee = none → link = l ∧ store = s.store ∧ p = s.pool ∧ nb = s.notices) ∧
  (∀ h g, l.tee = some h → s.segment h = some g →
    let k := cellsFor body.length
    let fits : Prop := g.entries.length < 255 ∧ g.cellsHeld + k ≤ g.cellLimit ∧
      s.pool.segmentCells + k ≤ s.store.quota ∧ s.pool.claimOrdinary 0 k ≠ none
    let replaced (g' : Segment) : Store :=
      { s.store with segments := s.store.segments.set h.val (some g') }
    (fits → link = l ∧ store = replaced { g with entries := g.entries ++ [body] } ∧
      p = { s.pool with freeCells := s.pool.freeCells - k
                        segmentCells := s.pool.segmentCells + k } ∧ nb = s.notices) ∧
    (¬ fits → link = { l with tee := none } ∧ store = replaced { g with state := .ready } ∧
      p = s.pool ∧ nb = s.notices.arrive (.capfull h g.entries.length)))

/-- What the closure of a FILLING gather of IN channel c leaves in t (R111, R112): its body is offered to
the tee, then joins the data queue of its class, or the other one while that still holds a parcel of the
channel, in the storage it holds; with 48 parcels in the data queues it is lost with an OVERRUN record. -/
def Forwarded (s t : State) (c : Chan) (l : Link) (cls : DataClass) (bs : List Byte) : Prop :=
  let a := s.arbiter
  let x : Inbound := { chan := c, body := bs }
  let inExpress : Prop := ∃ y ∈ a.express, y.chan = c
  let inNormal : Prop := ∃ y ∈ a.normal, y.chan = c
  ∃ (link : Link) (p : Pool) (nb : Notices),
    Captured s l bs link t.store p nb ∧ t.link c = some link ∧
    (a.express.length + a.normal.length < 48 → t.pool = p ∧ t.notices = nb ∧
      (cls = .normal ∧ ¬ inExpress ∨ cls = .express ∧ inNormal →
        t.arbiter = { a with normal := a.normal ++ [x] }) ∧
      (cls = .express ∧ ¬ inNormal ∨ cls = .normal ∧ inExpress →
        t.arbiter = { a with express := a.express ++ [x] }) ∧
      (t.channel c).parcels = (s.channel c).parcels + 1 ∧
      (t.channel c).bytes = (s.channel c).bytes + BitVec.ofNat 32 bs.length ∧
      (t.channel c).drops = (s.channel c).drops) ∧
    (48 ≤ a.express.length + a.normal.length → t.arbiter = a ∧
      t.pool = p.put false 1 (cellsFor bs.length) ∧ t.notices = nb.arrive (.overrun c bs.length) ∧
      (t.channel c).parcels = (s.channel c).parcels ∧ (t.channel c).bytes = (s.channel c).bytes ∧
      (t.channel c).drops = satInc (s.channel c).drops)

/-! ### The Gather Unit and a latched byte -/

/-- The Gather Unit of spur n takes byte d for IN channel c (R98 to R100, R103): g is its gather after,
and p the pool, from which the first byte took a descriptor and a cell (a dropped terminator a
descriptor) and every 32nd byte after it a cell. -/
def Takes (s : State) (n : Spur) (c : Chan) (k : InSettings) (d : Byte) (g : GatherState) (p : Pool) :
    Prop :=
  match (s.gather n).state with
  | .empty =>
    if k.drops d then s.pool.claimOrdinary 1 0 = some p ∧ g = .filling c k.cls []
    else s.pool.claimOrdinary 1 1 = some p ∧ g = .filling c k.cls [d]
  | .filling c' cls bs =>
    if k.drops d then p = s.pool ∧ g = .filling c' cls bs
    else (if bs.length % 32 = 0 then s.pool.claimOrdinary 0 1 = some p else p = s.pool) ∧
      g = .filling c' cls (bs ++ [d])
  | .losing m => p = s.pool ∧ g = .losing (if k.drops d then m else m + 1)

/-- The pool refuses the claim of dd descriptors and kk cells that byte d needs (R99, R100). -/
def Refuses (s : State) (n : Spur) (k : InSettings) (d : Byte) (dd kk : Nat) : Prop :=
  s.pool.claimOrdinary dd kk = none ∧
  match (s.gather n).state with
  | .empty => dd = 1 ∧ kk = if k.drops d then 0 else 1
  | .filling _ _ bs => k.drops d = false ∧ bs.length % 32 = 0 ∧ dd = 0 ∧ kk = 1
  | .losing _ => False

/-! ### The laws that every step keeps -/

/-- The bounds of the return path's collections: the FIFO (R123), the data queues (R117) and the
express-run counter (R121). -/
structure ReturnPathBounds (s : State) : Prop where
  fifo : s.notices.fifo.length ≤ Config.fifoDepth
  data : s.arbiter.express.length + s.arbiter.normal.length ≤ Config.dataQueueDepth
  run : s.arbiter.run ≤ Config.expressRun

/-- The hold-off timer is STOPPED exactly while every count of the credit table is 0 (R126). -/
def HoldOffLaw (s : State) : Prop := s.notices.timer = .stopped ↔ s.notices.noCredit = true

/-- The credit law (R50, R125): an OUT channel's outstanding and unreported credit together are at
most its limit, at most 15, and any other channel has no unreported credit. -/
def CreditLaw (s : State) : Prop :=
  ∀ c : Chan, match s.link c with
    | none => s.credit c = 0
    | some l => match l.dir with
      | .outbound limit outstanding => outstanding + s.credit c ≤ limit ∧ limit ≤ 15
      | .inbound _ => s.credit c = 0

/-- The cells of all entries of all segments, added up. -/
def Store.cellSum (st : Store) : Nat :=
  (st.segments.toList.map fun x => match x with | some g => g.cellsHeld | none => 0).sum

/-- The segment law (R148, R149): each segment holds at most 255 entries and at most its cell limit,
the pool's total is the sum over the segments, and the total is at most the quota, at most 1536. -/
structure SegmentLaw (s : State) : Prop where
  entries : ∀ h g, s.segment h = some g → g.entries.length ≤ Config.segmentEntries
  cells : ∀ h g, s.segment h = some g → g.cellsHeld ≤ g.cellLimit
  total : s.pool.segmentCells = s.store.cellSum
  quota : s.pool.segmentCells ≤ s.store.quota
  most : s.store.quota ≤ Config.maxSegmentCells

/-- The engine holds at most 4 requests (R172). -/
def RequestBound (s : State) : Prop := s.engine.requests.length ≤ Config.requestDepth

end Sys2Proof.Machine
end

