-- ==== Sys2Proof/Certificates/Slice0/Obligations.lean ====
section
/-! DEFINITION. The statements for the provers, chapter by chapter. Where a statement speaks of one
command's effect, Settled and Ready (Safety.lean) say in which states the effect stands alone: the part
is out of reset, trunk-out is busy, nobody waits for the pool, and, for a request, the engine would
execute it at once. -/

open Sys2Proof Sys2Proof.Machine

/-! ### The machine as a whole -/

/-- A step takes the front of the queue, and with none waiting the part idles. The queue is the model's
own (log 1). -/
def Obligations.StepRunsFrontCommand : Prop :=
  (∀ (c : Instr) (rest : List Instr) (s : State), s.pending = c :: rest →
    step s = exec c { s with pending := rest }) ∧
  (∀ s : State, s.pending = [] → s.agenda = [] → step s = .next s)

/-- Every well-formed command goes on, in every state, and leaves the queue alone; a term that spells
no command is refused by name (log 20). -/
def Obligations.EveryCommandGoesOn : Prop :=
  ∀ (c : Instr) (s : State),
    (WellFormed c = true → ∃ t, exec c s = .next t ∧ t.pending = s.pending) ∧
    (WellFormed c = false →
      exec c s = .refused .bodyTooLong ∨ exec c s = .refused .codeOfARequest)

/-- The values that a line reset leaves (R193, R134), with the first notice on trunk-out. The input
levels are the model's choice (log 9) and are not stated. -/
def Obligations.ResetValues : Prop :=
  State.reset.inReset = false ∧ State.reset.trunkIn.tiak = false ∧
  State.reset.tx = some { parcel := { tag := 48, body := [0, 1, 0, 0, 1] }, beat := 1,
                          phase := .presented, restart := false } ∧
  State.reset.trunkOut.tod = 48 ∧ State.reset.trunkOut.tomk = true ∧
  State.reset.trunkOut.torq = true ∧
  State.reset.rx.state = .hunt ∧ State.reset.rx.gapLimit = 20 ∧
  State.reset.rx.counts = TrunkCounts.zero ∧
  (∀ c : Chan, State.reset.channel c = { link := none, parcels := 0, bytes := 0, drops := 0 } ∧
    State.reset.credit c = 0) ∧
  (∀ n : Spur, State.reset.queue n = [] ∧ (State.reset.lane n).state = .off ∧
    (State.reset.lane n).strobe = false ∧ (State.reset.lane n).drive = none ∧
    (State.reset.lane n).config =
      { enable := false, home := .outward, guard := 5, attention := .honor, yield := 20 } ∧
    (State.reset.gather n).state = .empty) ∧
  (∀ k : ProfileNo, State.reset.profile k =
    { discipline := .interlock, setup := 10, strobe := 10, pacing := 100, ackLimit := 1000 }) ∧
  State.reset.arbiter.responses = [] ∧ State.reset.arbiter.express = [] ∧
  State.reset.arbiter.normal = [] ∧ State.reset.arbiter.run = 0 ∧
  State.reset.notices.fifo = [] ∧ State.reset.notices.lost = 0 ∧
  State.reset.notices.timer = .stopped ∧ State.reset.notices.holdOff = 10 ∧
  State.reset.pool.freeCells = 2047 ∧ State.reset.pool.freeDescriptors = 127 ∧
  State.reset.pool.waiting = [] ∧ State.reset.store.quota = 1024 ∧
  (∀ h : Handle, State.reset.segment h = none) ∧ (∀ i : Context, State.reset.context i = none) ∧
  State.reset.engine.requests = [] ∧ State.reset.engine.remembered = none ∧
  State.reset.engine.counts = EngineCounts.zero ∧ State.reset.lastReset = .line

/-- The laws hold right after reset. -/
def Obligations.ResetMeetsTheLaws : Prop :=
  ReturnPathBounds State.reset ∧ HoldOffLaw State.reset ∧ CreditLaw State.reset ∧
  SegmentLaw State.reset ∧ RequestBound State.reset

/-- The bounds of the notice FIFO (R123), of the data queues (R117) and of the express run (R121) are
kept by every step. -/
def Obligations.StepKeepsReturnPathBounds : Prop :=
  ∀ s t : State, ReturnPathBounds s → step s = .next t → ReturnPathBounds t

/-- The hold-off timer stays STOPPED exactly while the credit table is all 0 (R126). -/
def Obligations.StepKeepsHoldOffLaw : Prop :=
  ∀ s t : State, HoldOffLaw s → step s = .next t → HoldOffLaw t

/-- No OUT channel's outstanding and unreported credit together pass its limit (R50). -/
def Obligations.StepKeepsCreditLaw : Prop :=
  ∀ s t : State, CreditLaw s → step s = .next t → CreditLaw t

/-- The segments stay within their limits, the entry bound and the quota (R148, R149, R156). -/
def Obligations.StepKeepsSegmentLaw : Prop :=
  ∀ s t : State, SegmentLaw s → step s = .next t → SegmentLaw t

/-- The Management Engine never holds more than 4 requests (R172). -/
def Obligations.StepKeepsRequestBound : Prop :=
  ∀ s t : State, RequestBound s → step s = .next t → RequestBound t

/-! ### Resets -/

/-- While RESET_N is asserted, a command moves at most the levels of the input lines; TIAK is never
asserted and the break timer never runs (R192). -/
def Obligations.ResetHoldsEverythingButLevels : Prop :=
  ∀ (c : Instr) (s t : State), s.inReset = true → c ≠ .resetNAsserted → c ≠ .resetNReleased →
    exec c s = .next t →
    t = { s with
      trunkIn := t.trunkIn
      trunkOut := { s.trunkOut with toak := t.trunkOut.toak }
      rx := { s.rx with breakTimer := t.rx.breakTimer }
      columns := t.columns } ∧
    (t.trunkIn.tiak = s.trunkIn.tiak ∨ t.trunkIn.tiak = false) ∧
    (t.rx.breakTimer = s.rx.breakTimer ∨ t.rx.breakTimer = .stopped) ∧
    (∀ n : Spur, t.column n = { s.column n with lane := { s.lane n with
      ready := (t.lane n).ready, atn := (t.lane n).atn, dataIn := (t.lane n).dataIn } })

/-- RESET_N asserted (R192): the lines take their held levels, every queue, engine and counter its line
reset state, and the pool is all free. RESET_N released (R193, R134): the settings take their defaults,
and the first parcel on trunk-out is the notice of serial 0 that carries STARTED with detail 1,
presented at once with TOAK deasserted and otherwise once TOAK has been deasserted. That TOD stays at
00h, with TOMK and TORQ deasserted, after the release while TOAK stays asserted is the model's own
deduction (log 18). -/
def Obligations.LineReset : Prop :=
  (∀ s : State, ∃ t, exec .resetNAsserted s = .next t ∧ t.inReset = true ∧
      t.trunkIn = { s.trunkIn with tiak := false } ∧
      t.trunkOut = { tod := 0, tomk := false, torq := false, toak := s.trunkOut.toak } ∧
      t.tx = none ∧ t.rx.state = .hunt ∧ t.rx.sum = 0 ∧ t.rx.gapTimer = none ∧
      t.rx.breakTimer = .stopped ∧
      t.rx.counts = TrunkCounts.zero ∧
      (∀ c : Chan, t.channel c = { link := none, parcels := 0, bytes := 0, drops := 0 } ∧
        t.credit c = 0) ∧
      (∀ n : Spur, t.queue n = [] ∧ (t.lane n).state = .off ∧ (t.lane n).strobe = false ∧
        (t.lane n).drive = none ∧ (t.lane n).sending = none ∧ (t.lane n).receiving = none ∧
        (t.lane n).inSnap = none ∧ (t.lane n).guardTimer = none ∧ (t.lane n).yieldTimer = none ∧
        (t.lane n).yieldDue = false ∧ (t.lane n).yieldOwed = false ∧
        (t.lane n).reference = none ∧ (t.lane n).offer = false ∧ (t.lane n).pulses = .none ∧
        (t.lane n).ready = (s.lane n).ready ∧ (t.lane n).atn = (s.lane n).atn ∧
        t.gather n = { state := .empty, idleTimer := none, lossy := false, waiting := none }) ∧
      t.arbiter = { responses := [], express := [], normal := [], run := 0, last := .none } ∧
      t.notices.fifo = [] ∧ t.notices.lost = 0 ∧ t.notices.serial = 0 ∧
      t.notices.timer = .stopped ∧
      t.pool = { freeCells := 2048, freeDescriptors := 128, mgmtCells := 0, mgmtDescriptors := 0,
                 segmentCells := 0, waiting := [] } ∧
      (∀ h : Handle, t.segment h = none) ∧ (∀ i : Context, t.context i = none) ∧
      t.engine = { requests := [], remembered := none, hold := false, restartDue := false,
                   counts := EngineCounts.zero, records := none }) ∧
  (∀ s : State, s.inReset = true → ∃ t, exec .resetNReleased s = .next t ∧ t.inReset = false ∧
      t.lastReset = .line ∧ t.rx.gapLimit = 20 ∧ t.notices.holdOff = 10 ∧ t.notices.fifo = [] ∧
      t.store.quota = 1024 ∧ t.pool.freeCells = 2047 ∧ t.pool.freeDescriptors = 127 ∧
      (∀ k : ProfileNo, t.profile k =
        { discipline := .interlock, setup := 10, strobe := 10, pacing := 100, ackLimit := 1000 }) ∧
      (∀ n : Spur, (t.lane n).config =
        { enable := false, home := .outward, guard := 5, attention := .honor, yield := 20 } ∧
        (t.lane n).state = .off) ∧
      t.rx.breakTimer =
        (if s.trunkIn.timk = true ∧ s.trunkIn.tirq = false then .running else .stopped) ∧
      t.tx = some { parcel := { tag := 48, body := [0, 1, 0, 0, 1] }, beat := 1
                    phase := if s.trunkOut.toak then .awaitLow else .presented, restart := false } ∧
      (s.trunkOut.toak = false →
        t.trunkOut = { tod := 48, tomk := true, torq := true, toak := false }) ∧
      (s.trunkOut.toak = true →
        t.trunkOut = { tod := 0, tomk := false, torq := false, toak := true }))

/-! ### The trunk -/

/-- A beat latched in HUNT or DISCARD (R4): with MARK deasserted it is counted as stray, or passed over;
with MARK asserted it is the tag of a new parcel, stored where the tag's claim is granted. -/
def Obligations.BeatOutsideAParcel : Prop :=
  ∀ (s : State) (d : Byte), Settled s → s.trunkIn.tirq = false →
    (s.rx.state = .hunt → exec (.trunkInBeat false d) s = .next { s.latched false d with
      rx := { s.rx with breakTimer := .stopped
                        counts := { s.rx.counts with stray := satInc s.rx.counts.stray } } }) ∧
    (s.rx.state = .discard → exec (.trunkInBeat false d) s = .next (s.latched false d)) ∧
    (s.rx.state = .hunt ∨ s.rx.state = .discard →
      ∃ (stored : Option (List Byte)) (p : Pool),
        exec (.trunkInBeat true d) s = .next { s.latched true d with
          pool := p
          rx := { s.rx with
            breakTimer := .stopped, sum := d, gapTimer := some s.rx.gapLimit
            state := .length { tag := d, len := 0, count := 0, stored := stored, first := [],
                               gapLimit := s.rx.gapLimit } } } ∧
        (d.toNat = 0 →
          (1 ≤ s.pool.freeDescriptors → stored = some [] ∧
            p = { s.pool with freeDescriptors := s.pool.freeDescriptors - 1
                              mgmtDescriptors := s.pool.mgmtDescriptors + 1 }) ∧
          (s.pool.freeDescriptors = 0 → stored = none ∧ p = s.pool)) ∧
        (1 ≤ d.toNat → d.toNat ≤ 47 →
          (1 + (8 - s.pool.mgmtDescriptors) ≤ s.pool.freeDescriptors →
            64 - s.pool.mgmtCells ≤ s.pool.freeCells → stored = some [] ∧
            p = { s.pool with freeDescriptors := s.pool.freeDescriptors - 1 }) ∧
          (s.pool.freeDescriptors < 1 + (8 - s.pool.mgmtDescriptors) ∨
            s.pool.freeCells < 64 - s.pool.mgmtCells → stored = none ∧ p = s.pool)) ∧
        (48 ≤ d.toNat → stored = none ∧ p = s.pool))

/-- The length beat (R5): 0 leads to CHECK, 1 to 240 to BODY, and 241 to 255 is a length error. -/
def Obligations.LengthBeat : Prop :=
  ∀ (s : State) (d : Byte) (p : Reception), Settled s → s.trunkIn.tirq = false →
    s.rx.state = .length p →
    (d.toNat = 0 → exec (.trunkInBeat false d) s = .next { s.latched false d with
      rx := { s.rx with breakTimer := .stopped, sum := s.rx.sum + d, gapTimer := some p.gapLimit
                        state := .check { p with len := 0 } } }) ∧
    (1 ≤ d.toNat → d.toNat ≤ 240 → exec (.trunkInBeat false d) s = .next { s.latched false d with
      rx := { s.rx with breakTimer := .stopped, sum := s.rx.sum + d, gapTimer := some p.gapLimit
                        state := .body { p with len := d } } }) ∧
    (241 ≤ d.toNat → exec (.trunkInBeat false d) s = .next
      (State.abandoned { s.latched false d with
        rx := { s.rx with
          breakTimer := .stopped, sum := s.rx.sum + d, gapTimer := none, state := .discard
          counts := { s.rx.counts with length := satInc s.rx.counts.length } } } p .length))

/-- A body beat (R7): the byte joins the sum and the count; in STORING mode it is stored, in a new cell
at each multiple of 32, and a refused cell leaves the parcel in NO-STORAGE mode (R11). -/
def Obligations.BodyBeat : Prop :=
  ∀ (s : State) (d : Byte) (p : Reception), Settled s → s.trunkIn.tirq = false →
    s.rx.state = .body p →
    ∃ (stored : Option (List Byte)) (q : Pool),
      exec (.trunkInBeat false d) s = .next
        (let p' : Reception := { p with
          count := p.count + 1, stored := stored
          first := if p.first.length < 2 then p.first ++ [d] else p.first }
        { s.latched false d with
          pool := q
          rx := { s.rx with
            breakTimer := .stopped, sum := s.rx.sum + d, gapTimer := some p.gapLimit
            state := if p.count + 1 = p.len.toNat then .check p' else .body p' } }) ∧
      (p.stored = none → stored = none ∧ q = s.pool) ∧
      (∀ bs, p.stored = some bs →
        (p.count % 32 ≠ 0 → stored = some (bs ++ [d]) ∧ q = s.pool) ∧
        (p.count % 32 = 0 →
          (∀ q', s.claimRx p.tag 0 1 = some q' → stored = some (bs ++ [d]) ∧ q = q') ∧
          (s.claimRx p.tag 0 1 = none → stored = none ∧
            q = s.pool.put (p.tag = 0) 1 (cellsFor bs.length))))

/-- The check beat of a parcel that is not handed on (R8 cases 1 and 2, R13): a failed check; a check
that holds for a parcel in NO-STORAGE mode, with a data tag, a tag of no use, or tag 0. -/
def Obligations.CheckBeatOfAnUndeliveredParcel : Prop :=
  ∀ (s : State) (d : Byte) (p : Reception), Settled s → s.trunkIn.tirq = false →
    s.rx.state = .check p → s.engine.records = none →
    let rx : Receiver := { s.rx with
      breakTimer := .stopped, sum := s.rx.sum + d, gapTimer := none, state := .hunt }
    (s.rx.sum + d ≠ 0 → exec (.trunkInBeat false d) s = .next
      (State.abandoned { s.latched false d with
        rx := { rx with counts := { rx.counts with check := satInc rx.counts.check } } } p
        .check)) ∧
    (s.rx.sum + d = 0 → p.stored = none →
      (∀ c, chanOf p.tag = some c → exec (.trunkInBeat false d) s = .next
        (dropReport c .noroom { s.latched false d with rx := rx })) ∧
      (48 ≤ p.tag.toNat → exec (.trunkInBeat false d) s = .next { s.latched false d with
        rx := { rx with counts := { rx.counts with unknown := satInc rx.counts.unknown } } }) ∧
      (p.tag = 0 →
        (∀ code seq more, p.first = code :: seq :: more →
          exec (.trunkInBeat false d) s = .next { s.latched false d with
            rx := rx, notices := s.notices.arrive (.reqlost code seq)
            engine := { s.engine with counts :=
              { s.engine.counts with lost := satInc s.engine.counts.lost } } }) ∧
        (p.first.length < 2 →
          exec (.trunkInBeat false d) s = .next { s.latched false d with
            rx := rx
            engine := { s.engine with counts :=
              { s.engine.counts with malformed := satInc s.engine.counts.malformed } } })))

/-- A good data parcel on an OUT channel within its credit, OPEN or HALTED, is accepted (R45, R46): it
joins the tail of its spur's queue in the storage it holds, and outstanding rises by one. It is then
offered to the channel's tee (R47), which captures a copy, or is unbound with a CAPFULL record (R157,
R158); the parcel is the same either way. -/
def Obligations.GoodDataParcelAccepted : Prop :=
  ∀ (s : State) (d : Byte) (p : Reception) (c : Chan) (bs : List Byte) (l : Link) (limit k : Nat),
    Settled s → s.trunkIn.tirq = false → s.rx.state = .check p → s.rx.sum + d = 0 →
    chanOf p.tag = some c → p.stored = some bs → s.link c = some l → l.isDraining = false →
    l.dir = .outbound limit k → k + s.credit c < limit →
    l.tee = none ∨ s.engine.records = none →
    (s.lane l.spur).state ≠ .idleOut → (s.lane l.spur).state ≠ .idleIn →
    ∃ t link, exec (.trunkInBeat false d) s = .next t ∧
      t.rx = { s.rx with
        breakTimer := .stopped, sum := 0, gapTimer := none, state := .hunt } ∧
      Captured s l bs link t.store t.pool t.notices ∧
      t.link c = some { link with dir := .outbound limit (k + 1) } ∧
      (∀ c', c' ≠ c → t.link c' = s.link c') ∧
      t.queue l.spur = s.queue l.spur ++ [{ chan := c, origin := .host, body := bs }] ∧
      (∀ n, n ≠ l.spur → t.column n = s.column n) ∧ t.gather l.spur = s.gather l.spur ∧
      (t.lane l.spur).state = (s.lane l.spur).state ∧
      (t.lane l.spur).sending = (s.lane l.spur).sending ∧
      (t.lane l.spur).receiving = (s.lane l.spur).receiving ∧
      t.arbiter = s.arbiter ∧ t.engine = s.engine ∧ t.profiles = s.profiles ∧ t.tx = s.tx ∧
      t.trunkOut = s.trunkOut

/-- A good data parcel that fails the acceptance test is dropped (R48): its storage is given back, a
DROP record is made and the channel's drops are counted; no credit is returned. -/
def Obligations.GoodDataParcelDropped : Prop :=
  ∀ (s : State) (d : Byte) (p : Reception) (c : Chan) (bs : List Byte) (r : DropReason),
    Settled s → s.trunkIn.tirq = false → s.rx.state = .check p → s.rx.sum + d = 0 →
    chanOf p.tag = some c → p.stored = some bs → s.judge c = .inl r → s.engine.records = none →
    exec (.trunkInBeat false d) s = .next (State.setChannel { s.latched false d with
      rx := { s.rx with breakTimer := .stopped, sum := 0, gapTimer := none, state := .hunt }
      pool := s.pool.put false 1 (cellsFor bs.length)
      notices := s.notices.arrive (.drop c r) } c
        { s.channel c with drops := satInc (s.channel c).drops })

/-- The acceptance test (table of R45), under the credit law of R50. -/
def Obligations.AcceptanceTable : Prop :=
  ∀ (s : State) (c : Chan), CreditLaw s →
    (s.link c = none → s.judge c = .inl .closed) ∧
    (∀ l, s.link c = some l →
      (∀ m a b, l.phase = .draining m a b → s.judge c = .inl .closing) ∧
      ((l.phase = .opened ∨ ∃ k, l.phase = .halted k) →
        (∀ i, l.dir = .inbound i → s.judge c = .inl .direction) ∧
        (∀ limit k, l.dir = .outbound limit k →
          (k + s.credit c = limit → s.judge c = .inl .overdrawn) ∧
          (k + s.credit c ≠ limit → s.judge c = .inr (l, limit, k)))))

/-- A drop report (R49): a DROP record, one drop counted, and one unreported credit exactly for an OUT
channel, OPEN or HALTED, whose outstanding and unreported credit are below its limit. -/
def Obligations.DropReportReturnsCredit : Prop :=
  ∀ (s : State) (c : Chan) (r : DropReason), s.engine.records = none →
    let nb := s.notices.arrive (.drop c r)
    let x := s.channel c
    let t : State := State.setChannel s c { x with drops := satInc x.drops }
    ((∃ l limit k, s.link c = some l ∧ l.isDraining = false ∧ l.dir = .outbound limit k ∧
        k + s.credit c < limit) →
      dropReport c r s = { t with notices := nb.addCredit c } ∧
      State.credit (dropReport c r s) c = s.credit c + 1) ∧
    ((¬ ∃ l limit k, s.link c = some l ∧ l.isDraining = false ∧ l.dir = .outbound limit k ∧
        k + s.credit c < limit) →
      dropReport c r s = { t with notices := nb })

/-- A parcel broken off within itself: a MARK beat in LENGTH, BODY or CHECK is a framing fault and the
tag of a new parcel (R9); a gap expiry there is a gap error and leaves HUNT (R10). -/
def Obligations.ParcelBrokenOff : Prop :=
  ∀ (s : State) (d limit : Byte) (p : Reception), Settled s →
    s.rx.state = .length p ∨ s.rx.state = .body p ∨ s.rx.state = .check p →
    (s.trunkIn.tirq = false → exec (.trunkInBeat true d) s = .next
      (takeTag d (State.abandoned { s.latched true d with
        rx := { s.rx with
          breakTimer := .stopped, gapTimer := none, state := .hunt
          counts := { s.rx.counts with framing := satInc s.rx.counts.framing } } } p .truncated))) ∧
    (s.rx.gapTimer = some limit → exec .gapTimerExpiry s = .next
      (State.abandoned { s with
        rx := { s.rx with
          gapTimer := none, state := .hunt
          counts := { s.rx.counts with gap := satInc s.rx.counts.gap } } } p .truncated))

/-- TIRQ and TIMK without a beat (R1, R15): TIRQ deasserted ends the beat with TIAK deasserted; the
break timer runs from the moment TIMK stands asserted with TIRQ deasserted, stays declared while that
lasts, and is stopped otherwise; TIRQ still asserted latches nothing more (log 5). -/
def Obligations.TrunkInLevels : Prop :=
  ∀ (s : State) (m : Bool), Settled s →
    let fell (m : Bool) : State := { s with
      trunkIn := { s.trunkIn with timk := m, tirq := false, tiak := false }
      rx := { s.rx with breakTimer :=
        if m = true then (if s.rx.breakTimer = .stopped then .running else s.rx.breakTimer)
        else .stopped } }
    exec .tirqDeasserted s = .next (fell s.trunkIn.timk) ∧
    exec (.breakConditionChange m false) s = .next (fell m) ∧
    (s.trunkIn.tirq = true → exec (.breakConditionChange m true) s = .next { s with
      trunkIn := { s.trunkIn with timk := m, tirq := true }
      rx := { s.rx with breakTimer := .stopped } }) ∧
    (s.trunkIn.tirq = false →
      exec (.breakConditionChange m true) s = exec (.trunkInBeat m s.trunkIn.tid) s)

/-- A break (R16, R180): the parcel under reception is abandoned without report, the breaks counter and
a BREAK record tell of it, and the engine flushes what waits and forgets the remembered response. The
record joins the tail of the notice FIFO; at a FIFO that holds 48 it is discarded and LOST rises, stopping
at 255. Every event record that reaches the Notice Builder is treated so (R123, R124). -/
def Obligations.TrunkBreakDeclared : Prop :=
  let arrived (nb nb' : Notices) (r : Record) : Prop :=
    (nb.fifo.length < 48 → nb' = { nb with fifo := nb.fifo ++ [r] }) ∧
    (48 ≤ nb.fifo.length → nb' = { nb with lost := if nb.lost = 255 then 255 else nb.lost + 1 })
  (∀ (nb : Notices) (r : Record), arrived nb (nb.arrive r) r) ∧
  (∀ s : State, Settled s → s.rx.breakTimer = .running → s.engine.records = none →
    s.engine.hold = false → ∃ t,
    exec .trunkBreak s = .next t ∧
    t.rx = { s.rx with
      state := .hunt, gapTimer := none, breakTimer := .declared
      counts := { s.rx.counts with breaks := satInc s.rx.counts.breaks } } ∧
    arrived s.notices t.notices .brk ∧
    t.engine = { s.engine with
      requests := (s.engine.requests.take 1).map fun (r : Request) => { r with discard := true }
      remembered := none } ∧
    t.pool.freeDescriptors = s.pool.freeDescriptors + (s.engine.requests.length - 1) +
      (match s.rx.current with
        | some p => if p.stored.isSome then 1 else 0
        | none => 0) ∧
    t.channels = s.channels ∧ t.columns = s.columns ∧ t.arbiter = s.arbiter ∧
    t.store = s.store ∧ t.tx = s.tx ∧ t.trunkOut = s.trunkOut)

/-- The handshake of trunk-out (R2, R18): TOAK asserted takes the beat and TORQ falls, with TOD and TOMK
free from then on (log 7); TOAK deasserted completes the beat, and the next one is presented. -/
def Obligations.TrunkOutHandshake : Prop :=
  ∀ (s : State) (t : Transmission), Settled s → s.tx = some t →
    (s.trunkOut.toak = false → t.phase = .presented → exec .toakAsserted s = .next { s with
      trunkOut := { tod := Config.freeData s.freeIndex, tomk := Config.freeMark s.freeIndex,
                    torq := false, toak := true }
      freeIndex := s.freeIndex + 1
      tx := some { t with phase := .acknowledged } }) ∧
    (s.trunkOut.toak = true → t.phase = .acknowledged → t.beat < t.parcel.body.length + 3 →
      exec .toakDeasserted s = .next { s with
        trunkOut := { tod := t.parcel.beats.getD t.beat 0, tomk := decide (t.beat = 0),
                      torq := true, toak := false }
        toakWait := false
        tx := some { t with beat := t.beat + 1, phase := .presented } }) ∧
    (s.trunkOut.toak = true → t.phase = .awaitLow → exec .toakDeasserted s = .next { s with
      trunkOut := { tod := t.parcel.beats.getD (t.beat - 1) 0, tomk := decide (t.beat = 1),
                    torq := true, toak := false }
      toakWait := false
      tx := some { t with phase := .presented } })

/-- Every parcel on trunk-out is its tag, its length, its body and a check that brings the sum of all
its beats to 0 modulo 256 (R3, R18). -/
def Obligations.ParcelBeatsSumToZero : Prop :=
  ∀ p : Parcel,
    (∃ check : Byte, p.beats = p.tag :: BitVec.ofNat 8 p.body.length :: (p.body ++ [check])) ∧
    p.beats.length = p.body.length + 3 ∧ p.beats.foldl (· + ·) 0 = 0

/-- The end of a parcel on trunk-out (R18, R119): its storage is given back, and the arbiter grants the
oldest response, a waiting normal parcel, or nothing. -/
def Obligations.ParcelBoundary : Prop :=
  ∀ (s : State) (t : Transmission), Settled s → s.tx = some t → s.trunkOut.toak = true →
    t.phase = .acknowledged → t.beat = t.parcel.body.length + 3 → t.restart = false →
    s.engine.restartDue = false → s.engine.requests = [] →
    let u : State := { s with
      trunkOut := { s.trunkOut with toak := false }, toakWait := false, tx := none
      pool := s.pool.put (chanOf t.parcel.tag).isNone 1 (cellsFor t.parcel.body.length) }
    (s.arbiter.responses = [] → s.eligible = false → s.arbiter.express = [] →
      s.arbiter.normal = [] → exec .toakDeasserted s = .next u) ∧
    (∀ x rest, s.arbiter.responses = [] → s.eligible = false → s.arbiter.express = [] →
      s.arbiter.normal = x :: rest → exec .toakDeasserted s = .next { u with
        arbiter := { s.arbiter with normal := rest, run := 0, last := .normal }
        trunkOut := { tod := byteOf (chanNumber x.chan), tomk := true, torq := true,
                      toak := false }
        tx := some { parcel := { tag := byteOf (chanNumber x.chan), body := x.body }, beat := 1
                     phase := .presented, restart := false } }) ∧
    (∀ r rest, s.arbiter.responses = r :: rest → exec .toakDeasserted s = .next { u with
        arbiter := { s.arbiter with responses := rest, last := .response }
        trunkOut := { tod := 0, tomk := true, torq := true, toak := false }
        tx := some { parcel := { tag := 0, body := r.answer.bytes }, beat := 1
                     phase := .presented, restart := r.restart } })

/-- What a notice carries (R129, R131, R132): its serial, then 16 records at most: LOSS where LOST is
above 0, a CREDIT record with the whole count of each channel that has one, in channel order, and FIFO
records, oldest first; each is four bytes. Its assembly sets LOST and the reported counts to 0, takes the
placed records, advances the serial, and stops or restarts the hold-off timer (R126, R130). When the
notice claimant is eligible (R125, R127): with a record in the FIFO, with LOST above 0, or with a credit
above 0 and either a channel's count at half its limit, rounded up, or the hold-off timer EXPIRED. Then the
order of the grant at a parcel boundary (R120), the express run (R121) and the parcel that each grant
brings to trunk-out: a notice whose storage is refused changes nothing, and the data queues follow
(R128); with no claimant that can win nothing happens (R119). -/
def Obligations.GrantOrder : Prop :=
  (∀ nb : Notices,
    let four (r : Record) : List Byte :=
      match r with
      | .started .line => [1, 0, 0, 1]
      | .started .restart => [1, 0, 0, 2]
      | .credit c k => [2, byteOf (c.val + 1), 0, byteOf k]
      | .drop c reason => [3, byteOf (c.val + 1), 0,
        match reason with
        | .closed => 1 | .closing => 2 | .direction => 3 | .overdrawn => 4 | .check => 5
        | .truncated => 6 | .length => 7 | .noroom => 8]
      | .stall c k => [4, byteOf (c.val + 1), 0, byteOf k]
      | .overrun c k => [5, byteOf (c.val + 1), 0, byteOf k]
      | .shut c drained discarded => [6, byteOf (c.val + 1), drained, discarded]
      | .capfull h k => [7, byteOf (h.val + 1), 0, byteOf k]
      | .playend c h reason => [8, byteOf (c.val + 1), byteOf (h.val + 1),
        match reason with | .done => 1 | .stopped => 2 | .closed => 3]
      | .brk => [9, 0, 0, 0]
      | .loss k => [10, 0, 0, k]
      | .reqlost code seq => [11, 0, seq, code]
    let loss : List Record := if nb.lost = 0 then [] else [.loss nb.lost]
    let told : List Chan :=
      ((List.finRange 47).filter fun c => decide (0 < nb.credits[c.val])).take (16 - loss.length)
    let room := 16 - (loss.length + told.length)
    let records : List Record :=
      loss ++ told.map (fun c => .credit c nb.credits[c.val]) ++ nb.fifo.take room
    let next := nb.assembled
    nb.nextBody = nb.serial :: (records.map four).flatten ∧ records.length ≤ 16 ∧
    nb.nextBody.length = 1 + 4 * records.length ∧
    next.lost = 0 ∧ next.serial = nb.serial + 1 ∧ next.holdOff = nb.holdOff ∧
    next.fifo = nb.fifo.drop room ∧
    (∀ c : Chan, next.credits[c.val] = if c ∈ told then 0 else nb.credits[c.val]) ∧
    ((∀ c : Chan, next.credits[c.val] = 0) → next.timer = .stopped) ∧
    ((∃ c : Chan, next.credits[c.val] ≠ 0) →
      next.timer = if nb.holdOff = 0 then .expired else .running nb.holdOff)) ∧
  (∀ s : State, s.eligible = true ↔ s.notices.fifo ≠ [] ∨ s.notices.lost ≠ 0 ∨
    (∃ c : Chan, 0 < s.notices.credits[c.val]) ∧
      ((∃ (c : Chan) (l : Link) (limit k : Nat), s.link c = some l ∧ l.dir = .outbound limit k ∧
        0 < s.notices.credits[c.val] ∧ limit ≤ 2 * s.notices.credits[c.val]) ∨
        s.notices.timer = .expired)) ∧
  (∀ s : State, s.tx = none → s.engine.restartDue = false →
    let a := s.arbiter
    let t := arbitrate s
    let sends (p : Parcel) (restart : Bool) : Prop :=
      t.tx = some { parcel := p, beat := 1
                    phase := if s.toakWait then .awaitLow else .presented, restart := restart }
    let sendsData (x : Inbound) : Prop :=
      sends { tag := byteOf (x.chan.val + 1), body := x.body } false ∧ t.notices = s.notices ∧
      t.pool = s.pool
    let mayWin : Prop := s.eligible = true ∧
      (a.last ≠ .notice ∨ (a.express = [] ∧ a.normal = []))
    let fits : Prop := 1 ≤ s.pool.freeDescriptors ∧
      cellsFor s.notices.nextBody.length ≤ s.pool.freeCells
    (∀ r rest, a.responses = r :: rest → t.arbiter = { a with responses := rest, last := .response } ∧
      sends { tag := 0, body := r.answer.bytes } r.restart ∧ t.notices = s.notices ∧
      t.pool = s.pool) ∧
    (a.responses = [] →
      (mayWin → fits → t.arbiter = { a with last := .notice } ∧
        sends { tag := 48, body := s.notices.nextBody } false ∧ t.notices = s.notices.assembled ∧
        t.pool = s.pool.holding s.notices.nextBody.length) ∧
      (¬ (mayWin ∧ fits) →
        (∀ x rest, a.normal = x :: rest →
          (a.express = [] ∨ a.run = 8 → sendsData x ∧
            t.arbiter = { a with normal := rest, run := 0, last := .normal }) ∧
          (∀ y more, a.express = y :: more → a.run < 8 → sendsData y ∧
            t.arbiter = { a with express := more, run := a.run + 1, last := .express })) ∧
        (a.normal = [] → ∀ y more, a.express = y :: more → sendsData y ∧
          t.arbiter = { a with
            express := more, run := if more = [] then 0 else a.run, last := .express }) ∧
        (a.normal = [] → a.express = [] → t = s))))

/-! ### The requests -/

/-- A request whose parameters its rule does not take, or whose code names no request (R171), is
answered MALFORMED and changes nothing else (R170). -/
def Obligations.MalformedRequests : Prop :=
  ∀ (c : Instr) (code seq : Byte) (params : List Byte) (s : State), Settled s →
    WellFormed c = true → c.requestBody = some (code :: seq :: params) →
    Ready s code seq params.length 0 → wrongParams code.toNat params = true →
    exec c s = .next (s.answered code seq .malformed [])

/-- A request that its rule refuses with any status but OK and ACCEPTED changes nothing but what its
answer changes (R170). -/
def Obligations.RefusedRequestsChangeNothing : Prop :=
  ∀ (c : Instr) (code seq : Byte) (params : List Byte) (s : State), Settled s →
    WellFormed c = true → c.requestBody = some (code :: seq :: params) →
    Ready s code seq params.length 0 →
    let x := executeRequest code params (s.executing code seq params)
    x.status ≠ .ok → x.status ≠ .accepted →
    x.results = [] ∧ exec c s = .next (s.answered code seq x.status [])

/-- A request whose code and sequence are those of the remembered response is answered with a copy of
that response, in the request's storage and what the pool adds, and is not executed (R178). Before that,
the arrival of a request: a good tag-0 parcel received with storage is judged at its check beat (R12,
R173). One of fewer than two bytes is counted as malformed; one with the sequence of a held request is
counted as a duplicate; at 4 held requests it is lost with a REQLOST record; each gives its storage back.
Otherwise it joins the queue and waits while no execution is allowed (R174, R177), and its check beat does
just what the command that names the request does in its place (log 3). -/
def Obligations.RepeatedRequestAnsweredAgain : Prop :=
  (∀ (s : State) (d : Byte) (p : Reception) (body : List Byte), Settled s →
    s.trunkIn.tirq = false → s.rx.state = .check p → s.rx.sum + d = 0 → p.tag = 0 →
    p.stored = some body → s.engine.records = none →
    let e := s.engine.counts
    let got (pool : Pool) (engine : Engine) (notices : Notices) : State := { s.latched false d with
      rx := { s.rx with breakTimer := .stopped, sum := 0, gapTimer := none, state := .hunt }
      pool := pool, engine := engine, notices := notices }
    let becomes (u : State) : Prop := exec (.trunkInBeat false d) s = .next u
    let back := s.pool.put true 1 (cellsFor body.length)
    (body.length < 2 → becomes (got back
      { s.engine with counts := { e with malformed := satInc e.malformed } } s.notices)) ∧
    (∀ code seq params, body = code :: seq :: params →
      ((∃ r ∈ s.engine.requests, r.seq = seq) → becomes (got back
        { s.engine with counts := { e with duplicates := satInc e.duplicates } } s.notices)) ∧
      ((∀ r ∈ s.engine.requests, r.seq ≠ seq) → 4 ≤ s.engine.requests.length →
        becomes (got back { s.engine with counts := { e with lost := satInc e.lost } }
          (s.notices.arrive (.reqlost code seq)))) ∧
      ((∀ r ∈ s.engine.requests, r.seq ≠ seq) → s.engine.requests.length < 4 →
        s.engine.hold = true ∨ 4 ≤ s.arbiter.responses.length →
        becomes (got s.pool { s.engine with requests := s.engine.requests ++
          [{ code := code, seq := seq, params := params, discard := false }] } s.notices)) ∧
      (∀ c : Instr, WellFormed c = true → c.requestBody = some body →
        1 ≤ s.pool.mgmtDescriptors → cellsFor body.length ≤ s.pool.mgmtCells →
        exec (.trunkInBeat false d) s = exec c (got back s.engine s.notices)))) ∧
  (∀ (code seq : Byte) (params : List Byte) (a : Answer) (s : State), Settled s →
    paramsFit params = true → s.engine.requests = [] → s.engine.hold = false →
    s.engine.records = none → s.arbiter.responses.length < 4 →
    s.engine.remembered = some a → a.code = code → a.seq = seq →
    1 ≤ s.pool.freeDescriptors → cellsFor (params.length + 2) ≤ s.pool.freeCells →
    cellsFor (a.results.length + 3) ≤ s.pool.freeCells →
    exec (.repeatAnswer code seq params) s = .next { s with
      pool := s.pool.holding (a.results.length + 3)
      arbiter := { s.arbiter with
        responses := s.arbiter.responses ++ [{ answer := a, restart := false }] }
      engine := { s.engine with counts :=
        { s.engine.counts with repeats := satInc s.engine.counts.repeats } } })

/-- IDENTIFY (R183): in every state its execution gives the same 15 bytes and changes nothing. -/
def Obligations.IdentifyAnswer : Prop :=
  let bytes : List Byte :=
    [0x4C, 0x43, 0x32, 0x32, 0x36, 0x30, 3, 47, 4, 8, 0, 128, 16, 8, 4]
  (∀ (s : State) (params : List Byte), executeRequest 1 params s =
    if params = [] then { state := s, status := .ok, results := bytes }
    else { state := s, status := .malformed, results := [] }) ∧
  (∀ (s : State) (seq : Byte), Settled s → Ready s 1 seq 0 15 →
    exec (.identify seq []) s = .next (s.answered 1 seq .ok bytes))

/-- READ STATUS (R184), the record of section 10.2 with the pool as it stands while the request holds
one descriptor and one cell; and READ SPUR (R95), the configuration, the lane state, the levels of SnDIR,
SnATN and SnRDY, and the number of queued entries. Neither changes anything. -/
def Obligations.StatusAndSpurRead : Prop :=
  (∀ (s : State) (seq : Byte), Settled s → Ready s 2 seq 0 40 →
      let lane (n : Spur) : List Byte := [(s.lane n).state.code, (s.lane n).state.dirCode]
      let k := s.rx.counts
      let e := s.engine.counts
      exec (.readStatus seq []) s = .next (s.answered 2 seq .ok
        (twoBytes (s.pool.freeCells - 1) ++ [byteOf (s.pool.freeDescriptors - 1)] ++
         twoBytes s.pool.segmentCells ++ twoBytes s.store.quota ++
         [s.notices.lost, byteOf s.notClosed] ++ lane 0 ++ lane 1 ++ lane 2 ++ lane 3 ++
         twoBytes k.stray.toNat ++ twoBytes k.framing.toNat ++ twoBytes k.length.toNat ++
         twoBytes k.check.toNat ++ twoBytes k.gap.toNat ++ twoBytes k.unknown.toNat ++
         twoBytes k.breaks.toNat ++ twoBytes e.malformed.toNat ++ twoBytes e.repeats.toNat ++
         twoBytes e.duplicates.toNat ++ twoBytes e.lost.toNat ++ [s.lastReset.code]))) ∧
  (∀ (s : State) (seq : Byte) (n : Spur), Settled s → Ready s 9 seq 1 11 →
      let l := s.lane n
      let flag (b : Bool) : Byte := if b then 1 else 0
      exec (.readSpur seq [BitVec.ofNat 8 n.val]) s = .next (s.answered 9 seq .ok
        [BitVec.ofNat 8 n.val, flag l.config.enable,
         (match l.config.home with | .outward => 0 | .inward => 1), l.config.guard,
         (match l.config.attention with | .honor => 0 | .ignore => 1), l.config.yield,
         (match l.state with
           | .off => 0 | .idleOut => 1 | .sending => 2 | .turnIn => 3 | .idleIn => 4
           | .receiving => 5 | .turnOut => 6),
         (match l.state with | .turnOut | .idleOut | .sending => 0 | _ => 1),
         flag l.atn, flag l.ready, BitVec.ofNat 8 (s.queue n).length]))

/-- RESET COUNTERS (R187): the trunk, management and channel counters become 0 and nothing else
changes. -/
def Obligations.ResetCountersZeroes : Prop :=
  ∀ (s : State) (seq : Byte), Settled s → Ready s 3 seq 0 0 → ∃ v : Vector Channel 47,
    (∀ c : Chan, v[c.val] = { s.channel c with parcels := 0, bytes := 0, drops := 0 }) ∧
    exec (.resetCounters seq []) s = .next (State.answered { s with
      rx := { s.rx with counts := TrunkCounts.zero }
      engine := { s.engine with counts := EngineCounts.zero }
      channels := v } 3 seq .ok [])

/-- RESTART. Executed (R189), it sets the restart hold and marks its response. When that response has
been sent (R19, R190), every block takes its restart state, what the restart keeps stands, and the
notice that carries STARTED with detail 2 is granted, in storage of its own. Every lane is OFF, its strobe
deasserted, its data lines released, its beat, snapshots, timers and marks gone (R96); the receiver is in
HUNT with its sum and gap timer clear, and its break timer runs afresh, or stays declared, where the break
condition holds on (R20); and the pool is free but for the segments and that notice (R146). -/
def Obligations.RestartHoldsAndTakesEffect : Prop :=
  (∀ (s : State) (seq : Byte), Settled s → Ready s 4 seq 0 0 → ∃ t,
    exec (.restart seq []) s = .next t ∧
    t = State.answered { s with engine := { s.engine with hold := true } } 4 seq .ok [] ∧
    t.arbiter.responses = s.arbiter.responses ++
      [reply 4 seq .ok [] true]) ∧
  (∀ (s : State) (t : Transmission), Settled s → s.tx = some t → s.trunkOut.toak = true →
      t.phase = .acknowledged → t.beat = t.parcel.body.length + 3 → t.restart = true →
      s.pool.segmentCells ≤ 1536 → ∃ u,
      exec .toakDeasserted s = .next u ∧
      u.tx = some { parcel := { tag := 48, body := [0, 1, 0, 0, 2] }, beat := 1
                    phase := .presented, restart := false } ∧
      u.lastReset = .restart ∧
      u.rx = { state := .hunt, sum := 0, gapTimer := none, breakTimer := s.rx.breakTimer
               gapLimit := s.rx.gapLimit, counts := TrunkCounts.zero } ∧
      u.trunkIn = s.trunkIn ∧ u.profiles = s.profiles ∧
      (∀ c : Chan, u.channel c = { link := none, parcels := 0, bytes := 0, drops := 0 } ∧
        u.credit c = 0) ∧
      (∀ n : Spur, u.queue n = [] ∧
        u.lane n = { state := .off, config := { (s.lane n).config with enable := false }
                     strobe := false, drive := none, ready := (s.lane n).ready
                     atn := (s.lane n).atn, dataIn := (s.lane n).dataIn, sending := none
                     receiving := none, inSnap := none, offer := false, pulses := .none
                     reference := none, guardTimer := none, yieldTimer := none, yieldDue := false
                     yieldOwed := false, workSeen := false } ∧
        u.gather n = { state := .empty, idleTimer := none, lossy := false, waiting := none }) ∧
      u.arbiter.responses = [] ∧ u.arbiter.express = [] ∧ u.arbiter.normal = [] ∧
      u.arbiter.run = 0 ∧ u.notices.fifo = [] ∧ u.notices.lost = 0 ∧ u.notices.serial = 1 ∧
      u.notices.timer = .stopped ∧ u.notices.holdOff = s.notices.holdOff ∧
      (∀ h : Handle, u.segment h = (s.segment h).map fun g => { g with state := .ready }) ∧
      u.store.quota = s.store.quota ∧ (∀ i : Context, u.context i = none) ∧
      u.pool = { freeCells := 2047 - s.pool.segmentCells, freeDescriptors := 127, mgmtCells := 1
                 mgmtDescriptors := 1, segmentCells := s.pool.segmentCells, waiting := [] } ∧
      u.engine = { requests := [], remembered := none, hold := false, restartDue := false,
                   counts := EngineCounts.zero, records := none })

/-- SET TRUNK (R17) and SET QUOTA (R156): the settings are replaced and the old ones returned; RANGE and
QUOTA change nothing. -/
def Obligations.SettingsReplaced : Prop :=
  ∀ (s : State) (seq a b : Byte), Settled s →
    (Ready s 5 seq 2 2 →
      (a ≠ 0 → exec (.setTrunk seq [a, b]) s = .next (State.answered { s with
        rx := { s.rx with gapLimit := a }
        notices := { s.notices with holdOff := b } } 5 seq .ok
          [s.rx.gapLimit, s.notices.holdOff])) ∧
      (a = 0 → exec (.setTrunk seq [a, b]) s = .next (s.answered 5 seq .range []))) ∧
    (Ready s 23 seq 2 2 →
      let q := a.toNat * 256 + b.toNat
      (s.pool.segmentCells ≤ q → q ≤ 1536 → exec (.setQuota seq [a, b]) s =
        .next (State.answered { s with store := { s.store with quota := q } } 23 seq .ok
          (twoBytes s.store.quota))) ∧
      (q < s.pool.segmentCells → q ≤ 1536 → exec (.setQuota seq [a, b]) s =
        .next (s.answered 23 seq .quota [])) ∧
      (1536 < q → exec (.setQuota seq [a, b]) s = .next (s.answered 23 seq .range [])))

/-- SET PROFILE (R77): all five fields are replaced, the discipline by its code 0 to 3; a field out of
range changes nothing. No lane takes the new values up but one that takes beats for a channel that names
the profile, with its gather EMPTY and no beat in progress (R79): another discipline deasserts SnSTB,
records the level of SnRDY as the TOGGLE reference and begins, PACED with its first pulse; the same one
leaves SnSTB, the reference and the schedule as they stand. That the idle timer stands stopped at the
assertion of a pulse is the model's deduction from R106 (log 14). -/
def Obligations.SetProfileReplaces : Prop :=
  ∀ (s : State) (seq num setup strobe pHi pLo aHi aLo : Byte) (d : Discipline), Settled s →
    Ready s 6 seq 8 0 →
    let params (disc : Byte) : List Byte := [num, disc, setup, strobe, pHi, pLo, aHi, aLo]
    let code : Byte := match d with | .interlock => 0 | .gated => 1 | .paced => 2 | .toggle => 3
    let p : Profile := { discipline := d, setup := setup, strobe := strobe, pacing := pHi ++ pLo,
                         ackLimit := aHi ++ aLo }
    (∀ k : ProfileNo, num = BitVec.ofNat 8 k.val → strobe ≠ 0 → ¬ (pHi = 0 ∧ pLo = 0) →
      let u : State := { s with profiles := s.profiles.set k.val p }
      let becomes (v : State) : Prop :=
        exec (.setProfile seq (params code)) s = .next (v.answered 6 seq .ok [])
      let keeps (n : Spur) : Prop := (s.lane n).inSnap = none ∨ (s.gather n).state ≠ .empty ∨
        (s.lane n).receiving ≠ none ∨
        ∀ c l, s.openIn n = some c → s.link c = some l → l.profile ≠ k
      ((∀ n, keeps n) → becomes u) ∧
      (∀ (n : Spur) (old : Profile) (c : Chan) (l : Link), (∀ m, m ≠ n → keeps m) →
        (s.lane n).inSnap = some old → (s.lane n).state = .idleIn → (s.gather n).state = .empty →
        (s.lane n).receiving = none → s.openIn n = some c → s.link c = some l → l.profile = k →
        let ln := s.lane n
        let taken (lossy : Bool) (v : Lane) : Prop := becomes (u.setColumn n { s.column n with
          gather := { s.gather n with lossy := lossy }, lane := v })
        let fresh : Lane := { ln with
          inSnap := some p, strobe := false, offer := false, pulses := .none
          reference := some ln.ready }
        (d ≠ old.discipline →
          (d = .interlock → ln.ready = true →
            taken false { fresh with strobe := true, offer := true }) ∧
          (d = .interlock → ln.ready = false → taken false fresh) ∧
          (d = .gated → taken true fresh) ∧
          (d = .toggle → taken false fresh) ∧
          (d = .paced → becomes (u.setColumn n { s.column n with
            gather := { s.gather n with lossy := true, idleTimer := none }
            lane := { fresh with
              state := .receiving, strobe := true, pulses := .running
              receiving := some { disc := .paced, ackLimit := p.ackLimit, phase := .pulse
                                  byte := none, tests := false, term := false
                                  ackTimer := none } } }))) ∧
        (d = old.discipline →
          (d = .interlock → ln.offer = ln.ready → taken false { ln with inSnap := some p }) ∧
          (d = .gated → taken true { ln with inSnap := some p }) ∧
          (d = .paced → ln.pulses = .running → taken true { ln with inSnap := some p }) ∧
          (d = .toggle → ln.reference = some ln.ready →
            taken false { ln with inSnap := some p })))) ∧
    (∀ disc : Byte, 8 ≤ num.toNat ∨ 4 ≤ disc.toNat ∨ strobe = 0 ∨ (pHi = 0 ∧ pLo = 0) →
      exec (.setProfile seq (params disc)) s = .next (s.answered 6 seq .range []))

/-- READ PROFILE (R78): in every state its execution judges in the order of the rule, returns the eight
bytes of the stored profile, its discipline by its code 0 to 3, and changes nothing. -/
def Obligations.ReadProfileAnswer : Prop :=
  let bytes (k : ProfileNo) (p : Profile) : List Byte :=
    [BitVec.ofNat 8 k.val,
     (match p.discipline with | .interlock => 0 | .gated => 1 | .paced => 2 | .toggle => 3),
     p.setup, p.strobe, p.pacing.extractLsb' 8 8, p.pacing.extractLsb' 0 8,
     p.ackLimit.extractLsb' 8 8, p.ackLimit.extractLsb' 0 8]
  (∀ (s : State) (params : List Byte),
    (params.length ≠ 1 →
      executeRequest 7 params s = { state := s, status := .malformed, results := [] }) ∧
    (∀ num : Byte, 7 < num.toNat →
      executeRequest 7 [num] s = { state := s, status := .range, results := [] }) ∧
    (∀ k : ProfileNo, executeRequest 7 [BitVec.ofNat 8 k.val] s =
      { state := s, status := .ok, results := bytes k (s.profile k) })) ∧
  (∀ (s : State) (seq : Byte) (k : ProfileNo), Settled s → Ready s 7 seq 1 8 →
    exec (.readProfile seq [BitVec.ofNat 8 k.val]) s =
      .next (s.answered 7 seq .ok (bytes k (s.profile k))))

/-- SET SPUR (R93, R94): the configuration is replaced and the old one returned. Enabling turns the lane
to its home direction, disabling puts it OFF, and a spur that a channel uses is not disabled. -/
def Obligations.SetSpurConfigures : Prop :=
  ∀ (s : State) (seq : Byte) (n : Spur) (cfg : SpurConfig), Settled s →
    Ready s 8 seq 6 5 → cfg.guard ≠ 0 → cfg.yield ≠ 0 →
    let l := s.lane n
    let request : Instr := .setSpur seq (BitVec.ofNat 8 n.val :: cfg.bytes)
    let done (l' : Lane) : Host.Outcome State Fault Refusal :=
      .next ((s.setLane n l').answered 8 seq .ok l.config.bytes)
    (l.config.enable = cfg.enable → (cfg.enable = true ∨ s.spurUsed n = false) →
      l.state ≠ .idleOut → l.state ≠ .idleIn → exec request s = done { l with config := cfg }) ∧
    (l.config.enable = false → cfg.enable = true → s.queue n = [] →
      (cfg.home = .outward → exec request s = done { l with
        config := cfg, state := .turnOut, strobe := false, drive := none
        guardTimer := some cfg.guard, yieldTimer := none, inSnap := none, offer := false
        pulses := .none }) ∧
      (cfg.home = .inward → exec request s = done { l with
        config := cfg, state := .turnIn, strobe := false, drive := none
        guardTimer := some cfg.guard, yieldTimer := none })) ∧
    (l.config.enable = true → cfg.enable = false → s.spurUsed n = false → exec request s =
      done { state := .off, config := cfg, strobe := false, drive := none, ready := l.ready
             atn := l.atn, dataIn := l.dataIn, sending := none, receiving := none
             inSnap := none, offer := false, pulses := .none, reference := none
             guardTimer := none, yieldTimer := none, yieldDue := false, yieldOwed := false
             workSeen := false }) ∧
    (cfg.enable = false → s.spurUsed n = true →
      exec request s = .next (s.answered 8 seq .state []))

/-! ### Channels -/

/-- OPEN CHANNEL (R25, R26, R27) on a spur whose lane is not idle: an OUT channel opens with its credit
limit and nothing outstanding, an IN channel with its gather settings, each with its tee and with the
channel's counters running on; a tee that names no segment is ABSENT and one not READY is BUSY. A channel
not CLOSED and a disabled spur give STATE, a second IN channel on the spur CONFLICT, and a sum of credit
limits above 30 QUOTA. -/
def Obligations.OpenChannelOpens : Prop :=
  ∀ (s : State) (seq : Byte) (c : Chan) (n : Spur) (k : ProfileNo) (t : Option Handle),
    Settled s → Ready s 10 seq 11 0 →
    let head (dir : Byte) : List Byte :=
      [byteOf (chanNumber c), dir, byteOf n.val, byteOf k.val]
    let tee : Byte := match t with | none => 0 | some h => byteOf (handleNumber h)
    let outward (limit count mode term gap cls : Byte) : Instr :=
      .openChannel seq (head 0 ++ [limit, count, mode, term, gap, cls, tee])
    let inward (limit count mode term gap : Byte) (cls : DataClass) : Instr :=
      .openChannel seq (head 1 ++ [limit, count, mode, term, gap, cls.code, tee])
    let refused (request : Instr) (status : Status) : Prop :=
      exec request s = .next (s.answered 10 seq status [])
    let opens (request : Instr) (d : Direction) : Prop :=
      let u := s.setLink c
        (some { dir := d, spur := n, profile := k, tee := t, phase := .opened })
      (t = none → exec request s = .next (u.answered 10 seq .ok [])) ∧
      (∀ h g, t = some h → s.segment h = some g →
        (g.state = .ready → exec request s = .next (State.answered
          (u.setSegment h (some { g with state := .capturing })) 10 seq .ok [])) ∧
        (g.state ≠ .ready → refused request .busy)) ∧
      (∀ h, t = some h → s.segment h = none → refused request .absent)
    (∀ limit count mode term gap cls : Byte, 1 ≤ limit.toNat → limit.toNat ≤ 15 →
      let request := outward limit count mode term gap cls
      (s.link c = none → (s.lane n).config.enable = true →
        (limit.toNat + s.creditSum n ≤ 30 → (s.lane n).state ≠ .idleOut →
          (s.lane n).state ≠ .idleIn → opens request (.outbound limit.toNat 0)) ∧
        (30 < limit.toNat + s.creditSum n → refused request .quota)) ∧
      (s.link c ≠ none ∨ (s.lane n).config.enable = false → refused request .state)) ∧
    (∀ (limit count mode term gap : Byte) (cls : DataClass), 1 ≤ count.toNat →
      count.toNat ≤ 240 → mode.toNat ≤ 2 →
      let request := inward limit count mode term gap cls
      (s.link c = none → (s.lane n).config.enable = true →
        (s.inChan n = none → (s.lane n).state ≠ .idleOut → (s.lane n).state ≠ .idleIn →
          opens request (.inbound
            { gatherCount := count.toNat
              terminator := if mode = 0 then none
                else some { byte := term, keep := decide (mode = 2) }
              idleGap := if gap = 0 then none else some gap
              cls := cls })) ∧
        (s.inChan n ≠ none → refused request .conflict)) ∧
      (s.link c ≠ none ∨ (s.lane n).config.enable = false → refused request .state))

/-- CLOSE CHANNEL (table of R30, R31). A CLOSED channel and a second DRAIN are refused; with its parcel
on the lane and none queued, an OUT channel enters DRAINING in the mode of the table; with nothing left
it closes at once, and its SHUT record follows its response. DISCARD, given or by an upgrade, removes the
channel's queued parcels and counts them as discarded (R33, R34, R37). An IN channel's gather is forwarded
under DRAIN and dropped under DISCARD (R36, R109); the drain then completes, or waits for the beat in
progress. -/
def Obligations.CloseChannelDrains : Prop :=
  ∀ (s : State) (seq : Byte) (c : Chan), Settled s → Ready s 11 seq 2 0 →
    let close (mode : CloseMode) : Instr :=
      .closeChannel seq [byteOf (chanNumber c), match mode with | .drain => 0 | .discard => 1]
    (∀ m, s.link c = none → exec (close m) s = .next (s.answered 11 seq .state [])) ∧
    (∀ l, s.link c = some l →
      (∀ m a b, l.phase = .draining m a b →
        exec (close .drain) s = .next (s.answered 11 seq .state [])) ∧
      (∀ a b, l.phase = .draining .discard a b →
        exec (close .discard) s = .next (s.answered 11 seq .accepted [])) ∧
      (∀ m limit k x, l.dir = .outbound limit k → s.contextOf c = none → s.queue l.spur = [] →
        (s.lane l.spur).state = .sending → (s.lane l.spur).sending = some x →
        x.parcel.chan = c → l.tee = none → l.phase = .opened ∨ (∃ why, l.phase = .halted why) →
        ∃ t, exec (close m) s = .next t ∧
          t.arbiter.responses = s.arbiter.responses ++ [reply 11 seq .accepted [] false] ∧
          (l.phase = .opened → t.link c = some { l with phase := .draining m 0 0 }) ∧
          ((∃ why, l.phase = .halted why) →
            t.link c = some { l with phase := .draining .discard 0 0 })) ∧
      (∀ m limit k, l.dir = .outbound limit k → l.phase = .opened → s.contextOf c = none →
        s.queue l.spur = [] → (s.lane l.spur).state = .turnIn →
        (s.lane l.spur).sending = none → l.tee = none →
        s.notices.fifo.length < 48 → ∃ t, exec (close m) s = .next t ∧
          t.arbiter.responses = s.arbiter.responses ++ [reply 11 seq .accepted [] false] ∧
          t.link c = none ∧ t.credit c = 0 ∧
          t.notices.fifo = s.notices.fifo ++ [.shut c 0 0] ∧
          (t.channel c).parcels = (s.channel c).parcels ∧
          (t.channel c).bytes = (s.channel c).bytes ∧
          (t.channel c).drops = (s.channel c).drops) ∧
      (∀ limit k x, l.dir = .outbound limit k → s.contextOf c = none →
        (s.lane l.spur).state = .sending → (s.lane l.spur).sending = some x →
        x.parcel.chan = c → l.tee = none →
        let gone := (s.queue l.spur).filter fun e => e.chan = c
        let hosts := gone.filter fun e => e.origin = .host
        let removed (mode : CloseMode) (a b : Byte) : Prop := ∃ t, exec (close mode) s = .next t ∧
          t.arbiter.responses = s.arbiter.responses ++ [reply 11 seq .accepted [] false] ∧
          t.queue l.spur = (s.queue l.spur).filter (fun e => e.chan ≠ c) ∧
          t.link c = some { l with
            dir := .outbound limit (k - hosts.length)
            phase := .draining .discard a (satAdd b gone.length) } ∧
          t.credit c = s.credit c ∧ (t.lane l.spur).sending = some x ∧
          t.pool = (s.pool.put false gone.length
            ((gone.map fun e => cellsFor e.body.length).sum)).holding 3
        (l.phase = .opened → removed .discard 0 0) ∧
        (∀ mode why, l.phase = .halted why → removed mode 0 0) ∧
        (∀ a b, l.phase = .draining .drain a b → removed .discard a b)) ∧
      (∀ m i c' cls bs, l.dir = .inbound i → s.inChan l.spur = some c → l.phase = .opened →
        l.tee = none → (s.lane l.spur).sending = none → s.contextOf c = none →
        (∀ e ∈ s.queue l.spur, e.chan ≠ c) →
        (s.gather l.spur).state = .filling c' cls bs → (s.gather l.spur).waiting = none →
        c' = c → bs ≠ [] → s.arbiter.express.length + s.arbiter.normal.length < 48 →
        (∀ y ∈ s.arbiter.express ++ s.arbiter.normal, y.chan ≠ c) →
        s.notices.fifo.length < 48 →
        let x : Inbound := { chan := c, body := bs }
        let ended (t : State) : Prop := exec (close m) s = .next t ∧
          (t.gather l.spur).state = .empty ∧ (t.gather l.spur).idleTimer = none ∧
          (t.lane l.spur).inSnap = none ∧
          t.arbiter.responses = s.arbiter.responses ++ [reply 11 seq .accepted [] false] ∧
          (m = .drain → (t.channel c).parcels = (s.channel c).parcels + 1 ∧
            (t.channel c).bytes = (s.channel c).bytes + BitVec.ofNat 32 bs.length ∧
            t.pool = s.pool.holding 3 ∧
            t.arbiter.express ++ t.arbiter.normal =
              (if cls = .express then s.arbiter.express ++ x :: s.arbiter.normal
               else s.arbiter.express ++ s.arbiter.normal ++ [x])) ∧
          (m = .discard → (t.channel c).parcels = (s.channel c).parcels ∧
            (t.channel c).bytes = (s.channel c).bytes ∧
            t.pool = (s.pool.put false 1 (cellsFor bs.length)).holding 3 ∧
            t.arbiter.express = s.arbiter.express ∧ t.arbiter.normal = s.arbiter.normal)
        let drained : Byte := match m with | .drain => 1 | .discard => 0
        let discarded : Byte := match m with | .drain => 0 | .discard => 1
        ((s.lane l.spur).state = .idleIn → (s.lane l.spur).receiving = none → ∃ t, ended t ∧
          t.link c = none ∧ t.notices.fifo = s.notices.fifo ++ [.shut c drained discarded]) ∧
        (∀ b, (s.lane l.spur).state = .receiving → (s.lane l.spur).receiving = some b →
          b.phase ≠ .held → ∃ t, ended t ∧ t.notices = s.notices ∧
          t.link c = some { l with phase := .draining m drained discarded } ∧
          (t.lane l.spur).receiving = some { b with tests := false })))

/-- HALT CHANNEL (R28) and RESUME CHANNEL (R29): an OPEN channel becomes HALTED with cause HOST, a HALTED
one OPEN; in any other state the answer is STATE. On an OUT channel whose lane is not idle, the entries
keep their places, and a playback onto it pauses (R165). On an IN channel whose lane is not IDLE_OUT, the
lane stops taking beats, a beat in progress goes on without testing the gather (R92), a FILLING gather is
forwarded and a LOSING one makes its OVERRUN record, after the response (R108, R176). At the resume, with
the lane not idle, a PAUSED context becomes ACTIVE and tests its conditions: it emits, or waits for the
pool at the tail of its list (R162, R165). -/
def Obligations.HaltAndResume : Prop :=
  ∀ (s : State) (seq : Byte) (c : Chan), Settled s →
    let halt : Instr := .haltChannel seq [byteOf (chanNumber c)]
    let resume : Instr := .resumeChannel seq [byteOf (chanNumber c)]
    let busy (n : Spur) : Prop := (s.lane n).state ≠ .idleOut ∧ (s.lane n).state ≠ .idleIn
    let common (i : Instr) (code : Byte) (n : Spur) (t : State) : Prop := exec i s = .next t ∧
      t.arbiter.responses = s.arbiter.responses ++ [reply code seq .ok [] false] ∧
      (∀ c', c' ≠ c → t.link c' = s.link c') ∧
      (t.lane n).sending = (s.lane n).sending
    (Ready s 12 seq 1 0 →
      (¬ (∃ l, s.link c = some l ∧ l.phase = .opened) →
        exec halt s = .next (s.answered 12 seq .state [])) ∧
      (∀ l, s.link c = some l → l.phase = .opened →
        let n := l.spur
        let h : Link := { l with phase := .halted .host }
        (l.isIn = false → busy n → ∃ t, common halt 12 n t ∧ t.link c = some h ∧
          t.queue n = s.queue n ∧ t.notices = s.notices ∧ t.pool = s.pool.holding 3 ∧
          (s.contextOf c = none → t.store = s.store) ∧
          (∀ i p, s.contextOf c = some i → s.context i = some p →
            t.context i = some { p with phase := if p.phase = .ending then .ending else .paused } ∧
            (∀ j, j ≠ i → t.context j = s.context j) ∧ ∀ k, t.segment k = s.segment k)) ∧
        (l.isIn = true → s.inChan n = some c → (s.lane n).state ≠ .idleOut →
          (s.gather n).waiting = none → (∀ b, (s.lane n).receiving = some b → b.phase ≠ .held) →
          let u : State := { s with
            pool := s.pool.holding 3
            arbiter := { s.arbiter with responses := s.arbiter.responses ++ [reply 12 seq .ok [] false] } }
          let stopped (t : State) : Prop := common halt 12 n t ∧ t.queue n = s.queue n ∧
            (t.lane n).inSnap = none ∧ (t.gather n).state = .empty ∧ (t.gather n).idleTimer = none ∧
            (t.lane n).receiving = ((s.lane n).receiving.map fun b => { b with tests := false })
          ((s.gather n).state = .empty → ∃ t, stopped t ∧ t.link c = some h ∧
            t.notices = s.notices ∧ t.store = s.store ∧ t.pool = u.pool ∧ t.arbiter = u.arbiter) ∧
          (∀ cls bs, (s.gather n).state = .filling c cls bs → bs ≠ [] →
            ∃ t, stopped t ∧ Forwarded u t c h cls bs) ∧
          (∀ m, (s.gather n).state = .losing m → ∃ t, stopped t ∧ t.link c = some h ∧
            t.notices = s.notices.arrive (.overrun c m) ∧ t.store = s.store ∧ t.pool = u.pool ∧
            t.arbiter = u.arbiter ∧ (t.channel c).drops = satInc (s.channel c).drops ∧
            (t.channel c).parcels = (s.channel c).parcels ∧
            (t.channel c).bytes = (s.channel c).bytes)))) ∧
    (Ready s 13 seq 1 0 →
      (¬ (∃ l why, s.link c = some l ∧ l.phase = .halted why) →
        exec resume s = .next (s.answered 13 seq .state [])) ∧
      (∀ l why, s.link c = some l → l.phase = .halted why → busy l.spur →
        let n := l.spur
        let pool := s.pool.holding 3
        let resumed (t : State) (q : List Outbound) (store : Store) (p : Pool) : Prop :=
          common resume 13 n t ∧ t.link c = some { l with phase := .opened } ∧
          t.queue n = s.queue n ++ q ∧ t.notices = s.notices ∧ t.store = store ∧ t.pool = p
        let turned (i : Context) (p : Playback) : Store :=
          { s.store with contexts := s.store.contexts.set i.val (some p) }
        (s.contextOf c = none → ∃ t, resumed t [] s.store pool) ∧
        (∀ i p, s.contextOf c = some i → s.context i = some p →
          (p.phase ≠ .paused → ∃ t, resumed t [] s.store pool) ∧
          (p.phase = .paused → 2 ≤ p.count ∨ p.timer = .running →
            ∃ t, resumed t [] (turned i { p with phase := .active }) pool) ∧
          (∀ g body, p.phase = .paused → p.count < 2 → p.timer = .elapsed → p.spur = n →
            p.spacing ≠ 0 → s.segment p.handle = some g → 1 ≤ p.next →
            g.entries[p.next - 1]? = some body →
            (∀ q, pool.claimOrdinary 1 (cellsFor body.length) = some q →
              p.next + 1 ≤ g.entries.length → ∃ t,
              resumed t [{ chan := p.chan, origin := .playback (some i), body := body }]
                (turned i { p with
                  phase := .active, next := p.next + 1, count := p.count + 1, timer := .running }) q) ∧
            (pool.claimOrdinary 1 (cellsFor body.length) = none → ∃ t,
              resumed t [] (turned i { p with phase := .waiting }) { pool with
                waiting := [{ who := .context i, descriptors := 1
                              cells := cellsFor body.length }] })))))

/-- READ CHANNEL (R40): in every state its execution returns the 28 bytes of the entry, with the absent
values of section 2.3, and changes nothing. -/
def Obligations.ReadChannelAnswer : Prop :=
  let counters (x : Channel) : List Byte :=
    fourBytes x.parcels.toNat ++ fourBytes x.bytes.toNat ++ twoBytes x.drops.toNat
  let tail (l : Link) : List Byte :=
    (match l.tee with | none => 0 | some h => byteOf (handleNumber h)) ::
    (match l.phase with
      | .opened => [0, 255, 0, 0]
      | .halted .stall => [1, 255, 0, 0]
      | .halted .host => [2, 255, 0, 0]
      | .draining .drain a b => [0, 0, a, b]
      | .draining .discard a b => [0, 1, a, b])
  let state (l : Link) : Byte :=
    match l.phase with | .opened => 1 | .halted _ => 2 | .draining _ _ _ => 3
  (∀ (s : State) (params : List Byte), params.length ≠ 1 →
    executeRequest 14 params s = { state := s, status := .malformed, results := [] }) ∧
  (∀ (s : State) (b : Byte), b.toNat = 0 ∨ 47 < b.toNat →
    executeRequest 14 [b] s = { state := s, status := .range, results := [] }) ∧
  (∀ (s : State) (c : Chan), ∃ record : List Byte,
    executeRequest 14 [byteOf (chanNumber c)] s =
      { state := s, status := .ok, results := record } ∧
    record.length = 28 ∧
    (s.link c = none → record = [byteOf (chanNumber c)] ++
      [0, 255, 255, 255, 0, 255, 255, 0, 0, 0, 0, 255, 0, 0, 255, 0, 0] ++
      counters (s.channel c)) ∧
    (∀ l limit k, s.link c = some l → l.dir = .outbound limit k →
      record = [byteOf (chanNumber c), state l, 0, byteOf l.spur.val, byteOf l.profile.val,
        byteOf limit, byteOf k, byteOf (s.credit c), 0, 0, 0, 0, 255] ++ tail l ++
        counters (s.channel c)) ∧
    (∀ l i, s.link c = some l → l.dir = .inbound i →
      record = [byteOf (chanNumber c), state l, 1, byteOf l.spur.val, byteOf l.profile.val,
        0, 255, 255, byteOf i.gatherCount] ++
        (match i.terminator with
          | none => [0, 0]
          | some w => [if w.keep then 2 else 1, w.byte]) ++
        [(match i.idleGap with | none => 0 | some gap => gap),
         (match i.cls with | .normal => 0 | .express => 1)] ++ tail l ++
        counters (s.channel c))) ∧
  (∀ (s : State) (seq : Byte) (c : Chan), Settled s → Ready s 14 seq 1 28 →
    exec (.readChannel seq [byteOf (chanNumber c)]) s =
      .next (s.answered 14 seq .ok (s.channelRecord c)))

/-- SET TEE (R41, table of R42) on an OPEN or HALTED channel, with the old tee as its result. -/
def Obligations.SetTeeBinds : Prop :=
  ∀ (s : State) (seq : Byte) (c : Chan) (l : Link), Settled s → Ready s 15 seq 2 1 →
    s.link c = some l → l.isDraining = false →
    let tee (t : Option Handle) : Byte :=
      match t with | none => 0 | some h => byteOf (handleNumber h)
    let request (t : Option Handle) : Instr := .setTee seq [byteOf (chanNumber c), tee t]
    let bound (t : Option Handle) (s' : State) : State := s'.setLink c (some { l with tee := t })
    (exec (request l.tee) s = .next (s.answered 15 seq .ok [tee l.tee])) ∧
    (∀ h g, l.tee = none → s.segment h = some g → g.state = .ready →
      exec (request (some h)) s = .next (State.answered ((bound (some h) s).setSegment h
        (some { g with state := .capturing })) 15 seq .ok [0])) ∧
    (∀ h g, l.tee = some h → s.segment h = some g →
      exec (request none) s = .next (State.answered ((bound none s).setSegment h
        (some { g with state := .ready })) 15 seq .ok [tee (some h)])) ∧
    (∀ h k g g', l.tee = some h → k ≠ h → s.segment h = some g → s.segment k = some g' →
      (g'.state = .ready → exec (request (some k)) s = .next (State.answered
        (((bound (some k) s).setSegment h (some { g with state := .ready })).setSegment k
          (some { g' with state := .capturing })) 15 seq .ok [tee (some h)])) ∧
      (g'.state ≠ .ready →
        exec (request (some k)) s = .next (s.answered 15 seq .busy []))) ∧
    (∀ k, l.tee ≠ some k → s.segment k = none →
      exec (request (some k)) s = .next (s.answered 15 seq .absent []))

/-! ### Segments and playback -/

/-- CREATE SEGMENT (R151) takes the lowest free handle for an empty segment, and DELETE SEGMENT (R154)
frees a READY one with its cells. -/
def Obligations.SegmentsCreatedAndDeleted : Prop :=
  (∀ (s : State) (seq hi lo : Byte) (label : List Byte) (h : Handle), Settled s →
    Ready s 16 seq (3 + label.length) 1 → 1 ≤ wordOf hi lo → wordOf hi lo ≤ 1536 →
    label.length ≤ 8 → (∀ b ∈ label, 0x20 ≤ b.toNat ∧ b.toNat ≤ 0x7E) →
    let request : Instr := .createSegment seq (hi :: lo :: byteOf label.length :: label)
    (s.segment h = none → (∀ k, k < h → s.segment k ≠ none) →
      exec request s = .next (State.answered (s.setSegment h
        (some { label := label, state := .ready, cellLimit := wordOf hi lo, entries := [] }))
        16 seq .ok [byteOf (handleNumber h)])) ∧
    ((∀ k, s.segment k ≠ none) → exec request s = .next (s.answered 16 seq .full []))) ∧
  (∀ (s : State) (seq : Byte) (h : Handle), Settled s → Ready s 19 seq 1 2 →
    let request : Instr := .deleteSegment seq [byteOf (handleNumber h)]
    (∀ g, s.segment h = some g → g.state = .ready → exec request s = .next (State.answered
      { s.setSegment h none with
        pool := { s.pool with
          segmentCells := s.pool.segmentCells - g.cellsHeld
          freeCells := s.pool.freeCells + g.cellsHeld } } 19 seq .ok (twoBytes g.cellsHeld))) ∧
    (∀ g, s.segment h = some g → g.state ≠ .ready →
      exec request s = .next (s.answered 19 seq .busy [])) ∧
    (s.segment h = none → exec request s = .next (s.answered 19 seq .absent [])))

/-- WRITE SEGMENT (R152, the four tests of R149): the entry joins the tail of the segment and its cells
move from the free count to the segments, or the answer is FULL and nothing changes. -/
def Obligations.WriteSegmentAppends : Prop :=
  ∀ (s : State) (seq : Byte) (h : Handle) (g : Segment) (data : List Byte), Settled s →
    Ready s 17 seq (data.length + 1) 3 → data.length ≤ 237 → s.segment h = some g →
    g.state = .ready →
    let request : Instr := .writeSegment seq (byteOf (handleNumber h) :: data)
    let k := cellsFor data.length
    let fits : Prop := g.entries.length < 255 ∧ g.cellsHeld + k ≤ g.cellLimit ∧
      s.pool.segmentCells + k ≤ s.store.quota ∧
      (s.pool.holding (data.length + 3)).claimOrdinary 0 k ≠ none
    (fits → exec request s = .next (State.answered
        { s.setSegment h (some { g with entries := g.entries ++ [data] }) with
          pool := { s.pool with
            freeCells := s.pool.freeCells - k, segmentCells := s.pool.segmentCells + k } }
        17 seq .ok (byteOf (g.entries.length + 1) :: twoBytes (g.cellsHeld + k)))) ∧
    (¬ fits → exec request s = .next (s.answered 17 seq .full []))

/-- READ SEGMENT (R153): the details of the segment and up to 200 bytes of the entry from the offset;
an index past the last entry, an offset past the end of the entry, and an offset without an entry are
RANGE; nothing changes. -/
def Obligations.ReadSegmentAnswer : Prop :=
  ∀ (s : State) (seq : Byte) (h : Handle) (g : Segment) (index offset : Byte), Settled s →
    Ready s 18 seq 3 210 → s.segment h = some g →
    let request : Instr := .readSegment seq [byteOf (handleNumber h), index, offset]
    let details (size : Nat) (data : List Byte) : List Byte :=
      [byteOf (handleNumber h),
       (match g.state with | .ready => 0 | .capturing => 1 | .playing => 2),
       byteOf g.entries.length] ++ twoBytes g.totalBytes ++ twoBytes g.cellLimit ++
      [byteOf size, offset, byteOf data.length] ++ data
    (index = 0 → offset = 0 →
      exec request s = .next (s.answered 18 seq .ok (details 0 []))) ∧
    (∀ i entry, index.toNat = i + 1 → g.entries[i]? = some entry →
      offset.toNat ≤ entry.length → exec request s = .next
        (s.answered 18 seq .ok
          (details entry.length ((entry.drop offset.toNat).take 200)))) ∧
    (g.entries.length < index.toNat →
      exec request s = .next (s.answered 18 seq .range [])) ∧
    (index = 0 → offset ≠ 0 → exec request s = .next (s.answered 18 seq .range [])) ∧
    (∀ i entry, index.toNat = i + 1 → g.entries[i]? = some entry →
      entry.length < offset.toNat → exec request s = .next (s.answered 18 seq .range []))

/-- LIST SEGMENTS (R155): the number of existing segments, then one item of 14 bytes for each, in handle
order; nothing changes. -/
def Obligations.ListSegmentsAnswer : Prop :=
  ∀ (s : State) (seq : Byte), Settled s → (∀ h g, s.segment h = some g → g.label.length ≤ 8) →
    let handles : List Handle := (List.finRange 16).filter fun h => (s.segment h).isSome
    Ready s 20 seq 0 (1 + 14 * handles.length) → ∃ items : List (List Byte),
      exec (.listSegments seq []) s =
        .next (s.answered 20 seq .ok (byteOf handles.length :: items.flatten)) ∧
      items.length = handles.length ∧
      (∀ (i : Nat) (h : Handle) (g : Segment), handles[i]? = some h → s.segment h = some g →
        ∃ label, items[i]? = some
          ([byteOf (handleNumber h),
            (match g.state with | .ready => 0 | .capturing => 1 | .playing => 2),
            byteOf g.entries.length] ++ twoBytes g.cellsHeld ++ [byteOf g.label.length] ++
            label) ∧
          label = g.label ++ List.replicate (8 - g.label.length) 0)

/-- PLAY SEGMENT (R160) onto an OPEN OUT channel whose lane is busy: the segment becomes PLAYING, and a
context starts and emits its first entry at once (R162, R163). -/
def Obligations.PlaySegmentStarts : Prop :=
  ∀ (s : State) (seq : Byte) (h : Handle) (c : Chan) (repeats spacing : Byte) (g : Segment)
    (l : Link) (limit k : Nat) (e1 e2 : List Byte) (more : List (List Byte)), Settled s →
    Ready s 21 seq 4 0 → s.segment h = some g → g.state = .ready →
    g.entries = e1 :: e2 :: more → s.link c = some l → l.phase = .opened →
    l.dir = .outbound limit k → (s.lane l.spur).state = .sending →
    (∀ i, s.context i = none) → s.strayPlayback l.spur = false → spacing ≠ 0 →
    (s.pool.holding 6).claimOrdinary 1 (cellsFor e1.length) ≠ none → ∃ t i,
      exec (.playSegment seq [byteOf (handleNumber h), byteOf (chanNumber c), repeats, spacing])
        s = .next t ∧
      t.arbiter.responses = s.arbiter.responses ++ [reply 21 seq .ok [] false] ∧
      t.segment h = some { g with state := .playing } ∧
      t.context i = some { phase := .active, handle := h, chan := c, spur := l.spur, next := 2
                           repeats := if repeats = 0 then none else some repeats.toNat
                           spacing := spacing, count := 1, timer := .running } ∧
      (∀ j, j ≠ i → t.context j = none) ∧
      t.queue l.spur = s.queue l.spur ++
        [{ chan := c, origin := .playback (some i), body := e1 }] ∧
      t.link c = s.link c ∧ t.notices = s.notices

/-- STOP PLAY (R166): the context's queued parcels are removed and their storage goes back, its segment
becomes READY and the context FREE, the answer tells where it stood, and the PLAYEND record follows the
answer. A parcel of it on the lane goes on, told to no context any more (R61). -/
def Obligations.StopPlayEnds : Prop :=
  ∀ (s : State) (seq : Byte) (c : Chan) (i : Context) (p : Playback) (g : Segment), Settled s →
    Ready s 22 seq 1 2 → s.contextOf c = some i → s.context i = some p → p.chan = c →
    s.segment p.handle = some g → (s.lane p.spur).state = .sending →
    s.notices.fifo.length < 48 → ∃ t,
      exec (.stopPlay seq [byteOf (chanNumber c)]) s = .next t ∧
      t.arbiter.responses = s.arbiter.responses ++
        [reply 22 seq .ok [byteOf p.next, byteOf (p.repeats.getD 0)] false] ∧
      t.context i = none ∧ (∀ j, j ≠ i → t.context j = s.context j) ∧
      t.segment p.handle = some { g with state := .ready } ∧
      t.queue p.spur = (s.queue p.spur).filter (fun e => e.origin ≠ .playback (some i)) ∧
      t.notices = { s.notices with
        fifo := s.notices.fifo ++ [.playend c p.handle .stopped] } ∧
      t.channels = s.channels ∧
      (let gone := (s.queue p.spur).filter fun e => e.origin = .playback (some i)
       t.pool = (s.pool.put false gone.length
         ((gone.map fun e => cellsFor e.body.length).sum)).holding 5) ∧
      (t.lane p.spur).sending = (s.lane p.spur).sending.map fun x =>
        { x with parcel := { x.parcel with
          origin := if x.parcel.origin = .playback (some i) then .playback none else x.parcel.origin } }

/-! ### Spurs -/

/-- SnRDY on a lane that sends (R81, R82, R84): READY before the data lets the byte be presented; BUSY
takes the byte under INTERLOCK; the return to READY, or any change under TOGGLE, completes the beat,
and the next byte of the body begins its beat. The end of the last beat under any discipline completes
the parcel (R57): for a host parcel on a channel OPEN or HALTED, its storage goes back, outstanding falls
by one, one unreported credit is released and the channel's counters rise (R59), and the lane makes its
decision. -/
def Obligations.ReadyWhileSending : Prop :=
  (∀ (s : State) (n : Spur) (d : Byte) (x : Sending), Settled s →
    (s.lane n).state = .sending → (s.lane n).sending = some x → x.snap.setup ≠ 0 →
    let l := s.lane n
    let timer : Option Count16 := if x.snap.ackLimit = 0 then none else some x.snap.ackLimit
    (x.phase = .waitReady → l.ready = false →
      exec (.snrdyChange n true d) s = .next (s.setLane n { l with
        ready := true, dataIn := d, drive := some (x.parcel.body.getD x.done 0)
        sending := some { x with
          phase := .setup
          ackTimer := if x.snap.discipline = .gated then none else x.ackTimer } })) ∧
    (x.phase = .waitBusy → l.ready = true →
      exec (.snrdyChange n false d) s = .next (s.setLane n { l with
        ready := false, dataIn := d, strobe := false
        sending := some { x with phase := .waitReturn } })) ∧
    (x.phase = .waitReturn → x.snap.discipline = .interlock → l.ready = false →
      x.done + 1 < x.parcel.body.length →
      exec (.snrdyChange n true d) s = .next (s.setLane n { l with
        ready := true, dataIn := d, drive := some (x.parcel.body.getD (x.done + 1) 0)
        sending := some { x with
          done := x.done + 1, phase := .setup, ackTimer := timer } })) ∧
    (x.phase = .waitToggle → x.snap.discipline = .toggle → l.reference = some l.ready →
      x.done + 1 < x.parcel.body.length →
      exec (.snrdyChange n (!l.ready) d) s = .next (s.setLane n { l with
        ready := !l.ready, dataIn := d, reference := none
        drive := some (x.parcel.body.getD (x.done + 1) 0)
        sending := some { x with
          done := x.done + 1, phase := .setup, ackTimer := timer } }))) ∧
  (∀ (s : State) (n : Spur) (x : Sending) (c : Instr) (k : Link) (limit out : Nat), Settled s →
    LastBeatEnds s n x c → x.parcel.origin = .host → s.link x.parcel.chan = some k →
    k.isDraining = false → k.dir = .outbound limit (out + 1) →
    (∀ e ∈ s.queue n, s.serviceable e = true → e.body ≠ []) → ∃ t, exec c s = .next t ∧
      Delivered s t n x.parcel ∧ EndOfParcel s t n ∧
      t.link x.parcel.chan = some { k with dir := .outbound limit out } ∧
      t.credit x.parcel.chan = s.credit x.parcel.chan + 1 ∧
      t.notices = s.notices.addCredit x.parcel.chan ∧ t.store = s.store)

/-- SnRDY on a lane that takes beats in IDLE_IN (R87, R89, R91): moving to BUSY under INTERLOCK with an
offer and under GATED, and any change under TOGGLE, latches the byte. Where the Gather Unit takes it
(R98 to R100, R103), INTERLOCK acknowledges by deasserting SnSTB and starts its ack limit, GATED
acknowledges by its strobe, and TOGGLE by inverting SnSTB, which ends its beat. Where the pool refuses
its claim, a backpressure discipline holds the beat and the unit waits at the tail of the waiting list
(R101); GATED gives back what the gather held and goes on LOSING (R102). Under INTERLOCK, moving to READY
without an offer brings the offer; in a beat that waits for READY it ends the beat: the ack limit stops, the
closure test is made, as at the end of a GATED beat (R104, R106, R111 to R113), and the lane returns to
IDLE_IN and offers again. At every other moment of a beat only the levels move (R86). -/
def Obligations.ReadyLatchesAByte : Prop :=
  (∀ (s : State) (n : Spur) (d : Byte) (c : Chan) (k : InSettings) (p : Profile), Settled s →
    (s.lane n).state = .idleIn → (s.lane n).inSnap = some p → s.openIn n = some c →
    s.inSettings c = some k →
    (s.gather n).waiting = none →
    let l := s.lane n
    let beat (phase : InPhase) (timer : Option Count16) : Receiving :=
      { disc := p.discipline, ackLimit := p.ackLimit, phase := phase, byte := some d
        tests := true, term := k.ends d, ackTimer := timer }
    let latched (ready : Bool) (q : Pool) (g : Gather) (l' : Lane) : Prop :=
      exec (.snrdyChange n ready d) s = .next { s.setColumn n { s.column n with
        gather := g
        lane := { l' with ready := ready, dataIn := d, offer := false } } with pool := q }
    (∀ g q, Takes s n c k d g q →
      let took : Gather := { s.gather n with state := g, idleTimer := none }
      (p.discipline = .interlock → l.offer = true → l.ready = true →
        latched false q took { l with
          state := .receiving, strobe := false
          receiving := some (beat .returning
            (if p.ackLimit = 0 then none else some p.ackLimit)) }) ∧
      (p.discipline = .gated → l.ready = true →
        latched false q took { l with
          state := .receiving, strobe := true, receiving := some (beat .strobe none) }) ∧
      (p.discipline = .toggle → l.reference = some l.ready → k.ends d = false →
        took.count ≠ k.gatherCount → l.yieldDue = false → s.outWork n = false →
        latched (!l.ready) q { took with idleTimer := k.idleGap } { l with
          strobe := !l.strobe, reference := some (!l.ready), receiving := none
          yieldTimer := none, workSeen := false })) ∧
    (∀ dd kk, Refuses s n k d dd kk →
      let waits : Gather :=
        { s.gather n with idleTimer := none, waiting := some { byte := d, term := k.drops d } }
      let queued : Pool := { s.pool with
        waiting := [{ who := .gather n, descriptors := dd, cells := kk }] }
      (p.discipline = .interlock → l.offer = true → l.ready = true →
        (s.gather n).lossy = false →
        latched false queued waits { l with
          state := .receiving, receiving := some (beat .held none) }) ∧
      (p.discipline = .toggle → l.reference = some l.ready → (s.gather n).lossy = false →
        latched (!l.ready) queued waits { l with
          state := .receiving, reference := some (!l.ready)
          receiving := some (beat .held none) }) ∧
      (p.discipline = .gated → l.ready = true → (s.gather n).lossy = true →
        latched false
          (match (s.gather n).state with
            | .filling _ _ bs => s.pool.put false 1 (cellsFor bs.length)
            | _ => s.pool)
          { s.gather n with
            idleTimer := none
            state := .losing ((s.gather n).count + (if k.drops d then 0 else 1)) }
          { l with state := .receiving, strobe := true, receiving := some (beat .strobe none) })) ∧
    (p.discipline = .interlock → l.offer = false → l.ready = false →
      exec (.snrdyChange n true d) s = .next (s.setLane n { l with
        ready := true, dataIn := d, strobe := true, offer := true }))) ∧
  (∀ (s : State) (n : Spur) (d : Byte) (x : Receiving), Settled s →
    (s.lane n).state = .receiving → (s.lane n).receiving = some x →
    let ln := s.lane n
    (∀ r, x.phase ≠ .returning ∨ r = false → exec (.snrdyChange n r d) s = .next (s.setLane n { ln with
      ready := r, dataIn := d })) ∧
    (∀ (c : Chan) (k : InSettings) (p : Profile) (l : Link), x.phase = .returning →
      ln.ready = false → ln.offer = false → x.tests = true → ln.inSnap = some p →
      p.discipline = .interlock → ln.yieldDue = false → s.outWork n = false →
      s.openIn n = some c → s.link c = some l → s.inSettings c = some k →
      let closed (t : State) : Prop := exec (.snrdyChange n true d) s = .next t ∧
        (t.gather n).state = .empty ∧ (t.gather n).idleTimer = none ∧ (t.lane n).state = .idleIn ∧
        (t.lane n).receiving = none ∧ (t.lane n).strobe = true ∧ (t.lane n).offer = true ∧
        (t.lane n).inSnap = some (s.inProfile c)
      (x.term = false → (s.gather n).state ≠ .empty → (s.gather n).count ≠ k.gatherCount →
        exec (.snrdyChange n true d) s = .next (s.setColumn n { s.column n with
          gather := { s.gather n with idleTimer := k.idleGap }
          lane := { ln with
            state := .idleIn, ready := true, dataIn := d, strobe := true, offer := true
            receiving := none, yieldTimer := none, workSeen := false } })) ∧
      (∀ cls bs, (s.gather n).state = .filling c cls bs →
        x.term = true ∨ bs ≠ [] ∧ bs.length = k.gatherCount →
        s.engine.records = none → ln.config.home = .inward →
        (s.inProfile c).discipline = .interlock → ∃ t, closed t ∧ Forwarded s t c l cls bs) ∧
      (∀ m, (s.gather n).state = .losing m → x.term = true ∨ m = k.gatherCount →
        s.engine.records = none → ln.config.home = .inward →
        (s.inProfile c).discipline = .interlock → ∃ t, closed t ∧ t.link c = some l ∧
          t.notices = s.notices.arrive (.overrun c m) ∧ t.pool = s.pool ∧
          t.arbiter = s.arbiter ∧ t.store = s.store ∧
          (t.channel c).drops = satInc (s.channel c).drops ∧
          (t.channel c).parcels = (s.channel c).parcels ∧
          (t.channel c).bytes = (s.channel c).bytes)))

/-- SnATN (R71, R72): while the lane is not idle only the level moves; asserted in IDLE_OUT with
attention HONOR, an OPEN IN channel and no yield owed, it turns the lane in (R68). -/
def Obligations.AttentionTurnsIn : Prop :=
  ∀ (s : State) (n : Spur), Settled s →
    let l := s.lane n
    (∀ a, l.state ≠ .idleOut → l.state ≠ .idleIn →
      exec (.snatnChange n a) s = .next (s.setLane n { l with atn := a })) ∧
    (l.state = .idleOut → l.atn = false → l.config.attention = .honor →
      (s.openIn n).isSome = true → l.yieldOwed = false → s.outWork n = false →
      exec (.snatnChange n true) s = .next (s.setLane n { l with
        atn := true, state := .turnIn, strobe := false, drive := none
        guardTimer := some l.config.guard, yieldTimer := none }))

/-- The timers of an outbound beat. SETUP_TIME_ELAPSED (R81 to R84): the strobe action of the
snapshot's discipline. STROBE_WIDTH_ELAPSED and PACING_INTERVAL_ELAPSED (R82, R83): SnSTB is deasserted;
a GATED beat completes there, a PACED beat at the later of the two, and the next byte begins its
beat. The end of the last beat under any discipline, for a parcel of a playback: no credit moves, and
its context is told, which ends with DONE where it was ENDING with no other parcel (R60, R164); and for a
host parcel in a drain: drained rises by one, and with nothing of the channel left the drain completes
with its SHUT record (R34, R38, R39). -/
def Obligations.OutboundBeatTimers : Prop :=
  (∀ (s : State) (n : Spur) (d : Byte) (x : Sending), Settled s →
    (s.lane n).sending = some x →
    let l := s.lane n
    let more : Prop := x.snap.setup ≠ 0 ∧ x.done + 1 < x.parcel.body.length
    let next := some (x.parcel.body.getD (x.done + 1) 0)
    let strobed (l' : Lane) : Prop := exec (.setupTimeElapsed n) s = .next (s.setLane n l')
    (x.phase = .setup →
      (x.snap.discipline = .interlock → l.ready = true →
        strobed { l with strobe := true, sending := some { x with phase := .waitBusy } }) ∧
      (x.snap.discipline = .gated →
        strobed { l with strobe := true, sending := some { x with phase := .strobe } }) ∧
      (x.snap.discipline = .paced →
        strobed { l with strobe := true, sending := some { x with phase := .pulse true true } }) ∧
      (x.snap.discipline = .toggle →
        strobed { l with strobe := !l.strobe, reference := some l.ready
                         sending := some { x with phase := .waitToggle } })) ∧
    (x.phase = .strobe → x.snap.discipline = .gated → l.ready = true → more →
      exec (.strobeWidthElapsed n d) s = .next (s.setLane n { l with
        dataIn := d, strobe := false, drive := next
        sending := some { x with done := x.done + 1, phase := .setup, ackTimer := none } })) ∧
    (x.phase = .pulse true true →
      exec (.strobeWidthElapsed n d) s = .next (s.setLane n { l with
        dataIn := d, strobe := false
        sending := some { x with phase := .pulse false true } }) ∧
      exec (.pacingIntervalElapsed n) s = .next (s.setLane n { l with
        sending := some { x with phase := .pulse true false } })) ∧
    (x.phase = .pulse true false → x.snap.discipline = .paced → more →
      exec (.strobeWidthElapsed n d) s = .next (s.setLane n { l with
        dataIn := d, strobe := false, drive := next
        sending := some { x with done := x.done + 1, phase := .setup, ackTimer := none } })) ∧
    (x.phase = .pulse false true → x.snap.discipline = .paced → more →
      exec (.pacingIntervalElapsed n) s = .next (s.setLane n { l with
        drive := next
        sending := some { x with done := x.done + 1, phase := .setup, ackTimer := none } }))) ∧
  (∀ (s : State) (n : Spur) (x : Sending) (c : Instr) (k : Link), Settled s →
    LastBeatEnds s n x c → s.link x.parcel.chan = some k → s.engine.records = none →
    s.notices.fifo.length < 48 → (∀ e ∈ s.queue n, s.serviceable e = true → e.body ≠ []) →
    let chan := x.parcel.chan
    let done (t : State) : Prop :=
      exec c s = .next t ∧ Delivered s t n x.parcel ∧ EndOfParcel s t n
    (∀ i p, x.parcel.origin = .playback (some i) → s.context i = some p →
      k.isDraining = false → p.phase ≠ .active ∨ p.timer = .running → ∃ t, done t ∧
        t.link chan = some k ∧ t.credit chan = s.credit chan ∧
        (∀ j, j ≠ i → t.context j = s.context j) ∧
        (p.phase ≠ .ending ∨ 2 ≤ p.count →
          t.context i = some { p with count := p.count - 1 } ∧ t.notices = s.notices ∧
          ∀ h, t.segment h = s.segment h) ∧
        (p.phase = .ending → p.count = 1 → t.context i = none ∧
          t.notices = { s.notices with
            fifo := s.notices.fifo ++ [.playend p.chan p.handle .done] } ∧
          ∀ g, s.segment p.handle = some g →
            t.segment p.handle = some { g with state := .ready })) ∧
    (∀ m a b limit out, x.parcel.origin = .host → k.phase = .draining m a b → k.spur = n →
      k.dir = .outbound limit (out + 1) → ∃ t, done t ∧ t.store = s.store ∧
        ((∃ e ∈ s.queue n, e.chan = chan) →
          t.link chan = some { k with
            dir := .outbound limit out, phase := .draining m (satAdd a 1) b } ∧
          t.credit chan = s.credit chan + 1 ∧ t.notices.fifo = s.notices.fifo) ∧
        ((∀ e ∈ s.queue n, e.chan ≠ chan) → t.link chan = none ∧ t.credit chan = 0 ∧
          t.notices.fifo = s.notices.fifo ++ [.shut chan (satAdd a 1) b])))

/-- STROBE_WIDTH_ELAPSED on a lane that receives (R86, R89, R90): SnSTB is deasserted and the beat ends;
a PACED pulse latches its byte then. A gather still below its count starts its idle timer (R106), and the
lane goes on in IDLE_IN; with the count reached, or after a terminator, the gather closes and is forwarded
(R104, R111, R112), a LOSING one with an OVERRUN record (R113), and the snapshot is taken again (R79).
Under PACED the next pulse follows when the interval has elapsed, and PACING_INTERVAL_ELAPSED brings it in
IDLE_IN. That the idle timer stops at the assertion of a pulse, and not only at its latch, is the model's
deduction from R106 (log 14). -/
def Obligations.GatedBeatEnds : Prop :=
  ∀ (s : State) (n : Spur) (d : Byte) (c : Chan) (k : InSettings) (p : Profile) (l : Link),
    Settled s → (s.lane n).sending = none → (s.lane n).inSnap = some p →
    (s.lane n).yieldDue = false → s.outWork n = false → s.openIn n = some c →
    s.link c = some l → s.inSettings c = some k →
    let ln := s.lane n
    let goesOn (i : Instr) (q : Pool) (g : Gather) (l' : Lane) : Prop :=
      exec i s = .next { s.setColumn n { s.column n with gather := g, lane := l' } with pool := q }
    let idle : Lane := { ln with
      state := .idleIn, dataIn := d, strobe := false, receiving := none, yieldTimer := none
      workSeen := false }
    let pulsing (l' : Lane) : Lane := { l' with
      state := .receiving, strobe := true, pulses := .running
      receiving := some { disc := .paced, ackLimit := p.ackLimit, phase := .pulse, byte := none
                          tests := false, term := false, ackTimer := none } }
    (∀ x, ln.state = .receiving → ln.receiving = some x → x.phase = .strobe → x.tests = true →
      p.discipline = .gated →
      (∀ c' cls bs, x.term = false → (s.gather n).state = .filling c' cls bs →
        bs.length ≠ k.gatherCount →
        goesOn (.strobeWidthElapsed n d) s.pool { s.gather n with idleTimer := k.idleGap } idle) ∧
      (∀ cls bs, (s.gather n).state = .filling c cls bs →
        x.term = true ∨ bs ≠ [] ∧ bs.length = k.gatherCount →
        s.engine.records = none → ln.config.home = .inward →
        (s.inProfile c).discipline = .gated → ∃ t,
          exec (.strobeWidthElapsed n d) s = .next t ∧ Forwarded s t c l cls bs ∧
          (t.gather n).state = .empty ∧ (t.gather n).idleTimer = none ∧
          (t.lane n).state = .idleIn ∧ (t.lane n).strobe = false ∧
          (t.lane n).receiving = none ∧ (t.lane n).inSnap = some (s.inProfile c)) ∧
      (∀ m, (s.gather n).state = .losing m → x.term = true ∨ m = k.gatherCount →
        s.engine.records = none → ln.config.home = .inward →
        (s.inProfile c).discipline = .gated → ∃ t,
          exec (.strobeWidthElapsed n d) s = .next t ∧ t.link c = some l ∧
          t.notices = s.notices.arrive (.overrun c m) ∧ t.pool = s.pool ∧
          t.arbiter = s.arbiter ∧ t.store = s.store ∧
          (t.channel c).drops = satInc (s.channel c).drops ∧
          (t.channel c).parcels = (s.channel c).parcels ∧
          (t.channel c).bytes = (s.channel c).bytes ∧ (t.gather n).state = .empty ∧
          (t.lane n).state = .idleIn ∧ (t.lane n).inSnap = some (s.inProfile c))) ∧
    (∀ x g q, ln.state = .receiving → ln.receiving = some x → x.phase = .pulse →
      p.discipline = .paced → Takes s n c k d g q → k.ends d = false →
      let took : Gather := { s.gather n with state := g }
      took.count ≠ k.gatherCount →
      (ln.pulses = .running → goesOn (.strobeWidthElapsed n d) q
        { took with idleTimer := k.idleGap } idle) ∧
      (ln.pulses = .elapsed → goesOn (.strobeWidthElapsed n d) q
        { took with idleTimer := none } (pulsing idle))) ∧
    (p.discipline = .paced → ln.pulses = .running →
      (ln.state = .idleIn → goesOn (.pacingIntervalElapsed n) s.pool
        { s.gather n with idleTimer := none } (pulsing ln)) ∧
      (ln.state = .receiving → goesOn (.pacingIntervalElapsed n) s.pool (s.gather n)
        { ln with pulses := .elapsed }))

/-- ACK_LIMIT_EXPIRY on a lane that sends (R62, R85): the parcel is abandoned, its storage goes back, the
STALL record carries the count of completed beats, and the lane makes its decision; the channel's counters
do not move. On a channel OPEN or HALTED it becomes HALTED with cause STALL: a host parcel's credit
returns, and a playback onto it pauses (R63, R165); a playback parcel changes no credit, and its context is
told, which pauses, or ends with DONE where it was ENDING with no other parcel (R63, R164). On a DRAINING
channel the remaining parcels are removed, they and the stalled one count as discarded, no credit returns,
and the drain completes (R35, R38, R39). On a lane that receives under INTERLOCK (R88, R110): the gather
is discarded, the OPEN channel becomes HALTED with cause STALL, the STALL record carries the number of
bytes discarded, and the lane stops taking beats; where the channel has left OPEN, the beat ends without a
stall (R92). -/
def Obligations.AckLimitStalls : Prop :=
  (∀ (s : State) (n : Spur) (x : Sending) (t0 : Count16) (l : Link), Settled s →
    (s.lane n).state = .sending → (s.lane n).sending = some x → x.ackTimer = some t0 →
    s.link x.parcel.chan = some l → l.spur = n → s.engine.records = none →
    s.notices.fifo.length < 48 →
    let c := x.parcel.chan
    let stall : Record := .stall c x.done
    let back := s.pool.put false 1 (cellsFor x.parcel.body.length)
    let ended (u t : State) : Prop := exec (.ackLimitExpiry n) s = .next t ∧ EndOfParcel u t n ∧
      (∀ c', c' ≠ c → t.channel c' = s.channel c' ∧ t.credit c' = s.credit c') ∧
      (t.channel c).parcels = (s.channel c).parcels ∧ (t.channel c).bytes = (s.channel c).bytes ∧
      (t.channel c).drops = (s.channel c).drops ∧
      (∀ m, m ≠ n → t.column m = s.column m) ∧ t.gather n = s.gather n ∧ t.arbiter = s.arbiter ∧
      (u.outWork n = false → u.attentionHeard n = false → (s.lane n).config.home = .outward →
        (t.lane n).strobe =
          if x.snap.discipline = .toggle then (s.lane n).strobe else false)
    let noMarker (u : State) : Prop := ∀ e ∈ u.queue n, u.serviceable e = true → e.body ≠ []
    (∀ limit k, x.parcel.origin = .host → l.isDraining = false → l.dir = .outbound limit (k + 1) →
      let h : Link := { l with phase := .halted .stall, dir := .outbound limit k }
      let u := s.setLink c (some h)
      noMarker u → ∃ t, ended u t ∧ t.link c = some h ∧ t.credit c = s.credit c + 1 ∧
        t.notices.fifo = s.notices.fifo ++ [stall] ∧ t.pool = back ∧
        (s.contextOf c = none → t.store = s.store) ∧
        (∀ i p, s.contextOf c = some i → s.context i = some p →
          t.context i = some { p with phase := if p.phase = .ending then .ending else .paused })) ∧
    (∀ i p, x.parcel.origin = .playback (some i) → l.isDraining = false →
      s.contextOf c = some i → s.context i = some p →
      let h : Link := { l with phase := .halted .stall }
      let u := s.setLink c (some h)
      noMarker u → ∃ t, ended u t ∧ t.link c = some h ∧ t.credit c = s.credit c ∧ t.pool = back ∧
        (∀ j, j ≠ i → (∀ q, s.context j = some q → q.chan ≠ c) → t.context j = s.context j) ∧
        (p.phase ≠ .ending ∨ 2 ≤ p.count →
          t.context i = some { p with
            count := p.count - 1, phase := if p.phase = .ending then .ending else .paused } ∧
          t.notices = { s.notices with fifo := s.notices.fifo ++ [stall] }) ∧
        (p.phase = .ending → p.count = 1 → s.notices.fifo.length < 47 → t.context i = none ∧
          t.notices = { s.notices with
            fifo := s.notices.fifo ++ [stall, .playend p.chan p.handle .done] } ∧
          ∀ g, s.segment p.handle = some g →
            t.segment p.handle = some { g with state := .ready })) ∧
    (∀ m a b limit k, l.phase = .draining m a b → l.dir = .outbound limit k →
      s.notices.fifo.length < 47 →
      let gone := (s.queue n).filter fun e => e.chan = c
      let u := (s.setQueue n ((s.queue n).filter fun e => e.chan ≠ c)).setLink c none
      noMarker u → ∃ t, ended u t ∧ t.link c = none ∧ t.credit c = 0 ∧
        t.notices.fifo = s.notices.fifo ++ [stall, .shut c a (satAdd b (gone.length + 1))] ∧
        t.store = s.store ∧
        t.pool = back.put false gone.length
          ((gone.map fun e => cellsFor e.body.length).sum))) ∧
  (∀ (s : State) (n : Spur) (x : Receiving) (t0 : Count16), Settled s →
    (s.lane n).state = .receiving → (s.lane n).sending = none →
    (s.lane n).receiving = some x → x.ackTimer = some t0 → s.engine.records = none →
    (∀ c l, s.openIn n = some c → s.link c = some l → x.tests = true → ∃ t,
      exec (.ackLimitExpiry n) s = .next t ∧
      t.link c = some { l with phase := .halted .stall } ∧
      (∀ c', c' ≠ c → t.link c' = s.link c') ∧
      t.notices = s.notices.arrive (.stall c (s.gather n).count) ∧
      (t.gather n).state = .empty ∧ (t.gather n).idleTimer = none ∧
      (∀ c' cls bs, (s.gather n).state = .filling c' cls bs →
        t.pool = s.pool.put false 1 (cellsFor bs.length)) ∧
      (∀ m, (s.gather n).state = .losing m → t.pool = s.pool) ∧
      (t.lane n).receiving = none ∧ (t.lane n).inSnap = none ∧
      (t.channel c).parcels = (s.channel c).parcels ∧
      (t.channel c).drops = (s.channel c).drops ∧ t.arbiter = s.arbiter ∧ t.store = s.store ∧
      ((s.lane n).config.home = .inward → s.outWork n = false → (s.lane n).yieldDue = false →
        (t.lane n).state = .idleIn) ∧
      ((s.lane n).config.home = .outward → (t.lane n).state = .turnOut)) ∧
    (∀ c l, s.inChan n = some c → s.link c = some l → l.isOpen = false → l.isDraining = false →
      (s.gather n).state = .empty → ∃ t, exec (.ackLimitExpiry n) s = .next t ∧
      (t.lane n).receiving = none ∧ t.channels = s.channels ∧ t.notices = s.notices ∧
      t.pool = s.pool ∧ t.arbiter = s.arbiter ∧ (t.gather n).state = .empty))

/-- TURN_IN_COMPLETE (R68, R73, R74) and TURN_OUT_COMPLETE (R69, R72, R55): the lane enters IDLE_IN,
where it begins to take beats for an OPEN IN channel, under PACED with its first pulse, or IDLE_OUT with
00h on the data lines, where it takes the oldest serviceable parcel, past the held ones (R55). One of
length 0 completes at once, and SnSTB stays as it stood (R58, R59). That the idle timer stands stopped at
the assertion of the first PACED pulse is the model's deduction from R106 (log 14). -/
def Obligations.TurnaroundsComplete : Prop :=
  ∀ (s : State) (n : Spur), Settled s →
    let l := s.lane n
    (l.state = .turnIn → l.receiving = none → l.config.home = .inward → l.yieldDue = false →
      s.outWork n = false → l.inSnap = none →
      let idle : Lane := { l with
        state := .idleIn, guardTimer := none, yieldTimer := none, workSeen := false }
      (s.openIn n = none → exec (.turnInComplete n) s = .next (s.setLane n idle)) ∧
      (∀ c, s.openIn n = some c → (s.inProfile c).discipline = .interlock →
        exec (.turnInComplete n) s = .next (s.setColumn n { s.column n with
          gather := { s.gather n with lossy := false }
          lane := { idle with
            inSnap := some (s.inProfile c), strobe := if l.ready then true else l.strobe
            offer := if l.ready then true else l.offer } })) ∧
      (∀ c, s.openIn n = some c → (s.inProfile c).discipline = .paced →
        exec (.turnInComplete n) s = .next (s.setColumn n { s.column n with
          gather := { s.gather n with lossy := true, idleTimer := none }
          lane := { idle with
            state := .receiving, inSnap := some (s.inProfile c), strobe := true
            pulses := .running
            receiving := some { disc := .paced, ackLimit := (s.inProfile c).ackLimit
                                phase := .pulse, byte := none, tests := false, term := false
                                ackTimer := none } } })) ∧
      (∀ c, s.openIn n = some c → (s.inProfile c).discipline = .toggle →
        exec (.turnInComplete n) s = .next (s.setColumn n { s.column n with
          gather := { s.gather n with lossy := false }
          lane := { idle with
            inSnap := some (s.inProfile c), reference := some l.ready } }))) ∧
    (l.state = .turnOut → l.config.home = .outward → l.atn = false →
      (s.outWork n = false → exec (.turnOutComplete n) s = .next (s.setLane n { l with
        state := .idleOut, guardTimer := none, drive := some 0, yieldOwed := false
        workSeen := false })) ∧
      (∀ held e rest, s.queue n = held ++ e :: rest → (∀ y ∈ held, s.serviceable y = false) →
        s.serviceable e = true → e.body ≠ [] → ∃ t x,
        exec (.turnOutComplete n) s = .next t ∧ t.queue n = held ++ rest ∧
        (t.lane n).state = .sending ∧ (t.lane n).sending = some x ∧ x.parcel = e ∧
        x.done = 0 ∧ (∀ k, s.link e.chan = some k → x.snap = s.profile k.profile) ∧
        (t.lane n).yieldOwed = false ∧ t.channels = s.channels ∧ t.pool = s.pool) ∧
      (∀ held e rest k limit out, s.queue n = held ++ e :: rest →
        (∀ y ∈ held ++ rest, s.serviceable y = false) → e.body = [] → e.origin = .host →
        s.link e.chan = some k → k.isOpen = true → k.dir = .outbound limit (out + 1) → ∃ t,
        exec (.turnOutComplete n) s = .next t ∧ Delivered s t n e ∧ t.queue n = held ++ rest ∧
        (t.lane n).state = .idleOut ∧ (t.lane n).sending = none ∧ (t.lane n).drive = some 0 ∧
        (t.lane n).strobe = l.strobe ∧
        t.link e.chan = some { k with dir := .outbound limit out } ∧
        t.notices = s.notices.addCredit e.chan ∧ t.credit e.chan = s.credit e.chan + 1))

/-- YIELD_TIMER_EXPIRY (R75, R76): a yield falls due; during an inbound beat and in TURN_IN it waits; in
IDLE_IN the lane turns out at once and owes a yield. With a partial gather it first hands over the closure
with YIELD (R107): a FILLING gather is forwarded, one with no stored byte only gives back its descriptor
(R111), and a LOSING one makes its OVERRUN record (R113). -/
def Obligations.YieldTimerExpires : Prop :=
  ∀ (s : State) (n : Spur) (v : Byte), Settled s → (s.lane n).yieldTimer = some v →
    let l := s.lane n
    let out : Lane := { l with
      state := .turnOut, strobe := false, drive := none, inSnap := none, offer := false
      pulses := .none, guardTimer := some l.config.guard, yieldTimer := none
      yieldDue := false, yieldOwed := true }
    (l.state = .receiving ∨ l.state = .turnIn →
      exec (.yieldTimerExpiry n) s = .next (s.setLane n { l with
        yieldTimer := none, yieldDue := true })) ∧
    (l.state = .idleIn → (s.gather n).state = .empty →
      exec (.yieldTimerExpiry n) s = .next (s.setLane n out)) ∧
    (∀ (c : Chan) (k : Link), l.state = .idleIn → s.openIn n = some c → s.link c = some k →
      s.engine.records = none →
      let yielded (t : State) : Prop := exec (.yieldTimerExpiry n) s = .next t ∧
        t.lane n = { out with reference := (t.lane n).reference } ∧ t.queue n = s.queue n ∧
        (t.gather n).state = .empty ∧ (t.gather n).idleTimer = none
      (∀ cls bs, (s.gather n).state = .filling c cls bs → bs ≠ [] →
        ∃ t, yielded t ∧ Forwarded s t c k cls bs) ∧
      (∀ cls, (s.gather n).state = .filling c cls [] → ∃ t, yielded t ∧
        t.pool = s.pool.put false 1 0 ∧ t.notices = s.notices ∧ t.arbiter = s.arbiter ∧
        t.channels = s.channels ∧ t.store = s.store) ∧
      (∀ m, (s.gather n).state = .losing m → ∃ t, yielded t ∧ t.link c = some k ∧
        t.notices = s.notices.arrive (.overrun c m) ∧ t.pool = s.pool ∧ t.arbiter = s.arbiter ∧
        t.store = s.store ∧ (t.channel c).drops = satInc (s.channel c).drops ∧
        (t.channel c).parcels = (s.channel c).parcels ∧
        (t.channel c).bytes = (s.channel c).bytes))

/-- IDLE_TIMER_EXPIRY (R106): the gather closes. Its bytes are offered to the tee (R157, R158) and become
one parcel, in the storage they hold, at the tail of the data queue of its class, or of the other while
that holds a parcel of the channel (R111), or are lost with an OVERRUN record to full data queues (R112);
a LOSING gather makes an OVERRUN record (R113). -/
def Obligations.IdleTimerForwardsGather : Prop :=
  ∀ (s : State) (n : Spur) (v : Byte) (c : Chan) (l : Link) (p : Profile), Settled s →
    (s.gather n).idleTimer = some v → s.openIn n = some c → s.link c = some l →
    (s.lane n).state = .idleIn → (s.lane n).inSnap = some p → p.discipline = .gated →
    (s.inProfile c).discipline = .gated → (s.lane n).yieldDue = false → s.outWork n = false →
    (s.lane n).config.home = .inward →
    let ended (t : State) : Prop := exec (.idleTimerExpiry n) s = .next t ∧
      (t.gather n).state = .empty ∧ (t.gather n).idleTimer = none ∧ (t.lane n).state = .idleIn
    (∀ cls bs, (s.gather n).state = .filling c cls bs → bs ≠ [] →
      (l.tee = none ∧ s.arbiter.express.length + s.arbiter.normal.length < 48) ∨
        s.engine.records = none → ∃ t, ended t ∧ Forwarded s t c l cls bs) ∧
    (∀ m, (s.gather n).state = .losing m → s.engine.records = none → ∃ t, ended t ∧
      t.link c = some l ∧ t.notices = s.notices.arrive (.overrun c m) ∧ t.pool = s.pool ∧
      t.arbiter = s.arbiter ∧ t.store = s.store ∧
      (t.channel c).drops = satInc (s.channel c).drops ∧
      (t.channel c).parcels = (s.channel c).parcels ∧ (t.channel c).bytes = (s.channel c).bytes)

/-- SPACING_TIMER_ELAPSED (R161, R162, R163): a context with two parcels outstanding only notes it; an
ACTIVE one with fewer, whose channel is OPEN and whose claim is granted, emits its next entry. -/
def Obligations.SpacingTimerElapses : Prop :=
  ∀ (s : State) (i : Context) (p : Playback), Settled s → s.context i = some p →
    p.timer = .running →
    (2 ≤ p.count → exec (.spacingTimerElapsed i) s =
      .next (s.setContext i (some { p with timer := .elapsed }))) ∧
    (∀ g body q, p.phase = .active → p.count < 2 → p.spacing ≠ 0 →
      s.chanOpen p.chan = true → s.segment p.handle = some g → 1 ≤ p.next →
      g.entries[p.next - 1]? = some body → p.next + 1 ≤ g.entries.length →
      s.pool.claimOrdinary 1 (cellsFor body.length) = some q →
      (s.lane p.spur).state = .sending → ∃ t,
        exec (.spacingTimerElapsed i) s = .next t ∧
        t.context i = some { p with next := p.next + 1, count := p.count + 1 } ∧
        t.queue p.spur = s.queue p.spur ++
          [{ chan := p.chan, origin := .playback (some i), body := body }] ∧
        t.pool = q ∧ t.channels = s.channels ∧ t.notices = s.notices)

/-- HOLD_OFF_EXPIRY (R126): the running timer becomes EXPIRED; trunk-out being busy, nothing is granted
yet. -/
def Obligations.HoldOffExpires : Prop :=
  ∀ (s : State) (v : Byte), Settled s → s.notices.timer = .running v →
    exec .holdOffExpiry s = .next { s with notices := { s.notices with timer := .expired } }

/-! ### The Cell Pool -/

/-- Management and ordinary claims (R137, R138, R139): each is granted whole or refused whole; the
unused part of the reserve is never taken by an ordinary claim. The waiting list: a refused claimant joins
its tail (R142); serving it judges the head alone, which leaves with its storage and acts at once before
the next is judged, or keeps its place with all behind it (R143); a waiter that leaves without a grant
leaves the others in their order, and only the head's leaving has the list served again (R144). -/
def Obligations.PoolClaims : Prop :=
  (∀ (p : Pool) (d k : Nat),
    (p.claimManagement d k =
      if d ≤ p.freeDescriptors ∧ k ≤ p.freeCells then some { p with
        freeCells := p.freeCells - k, freeDescriptors := p.freeDescriptors - d
        mgmtCells := p.mgmtCells + k, mgmtDescriptors := p.mgmtDescriptors + d }
      else none) ∧
    (0 < d + k → (∃ q, p.claimOrdinary d k = some q) →
      p.waiting = [] ∧ k + (64 - p.mgmtCells) ≤ p.freeCells ∧
      d + (8 - p.mgmtDescriptors) ≤ p.freeDescriptors) ∧
    (p.waiting = [] → k + (64 - p.mgmtCells) ≤ p.freeCells →
      d + (8 - p.mgmtDescriptors) ≤ p.freeDescriptors → p.claimOrdinary d k = some { p with
        freeCells := p.freeCells - k, freeDescriptors := p.freeDescriptors - d })) ∧
  (∀ (s : State) (who : Claimant) (d k : Nat), s.joinWaiting who d k = { s with
    pool := { s.pool with
      waiting := s.pool.waiting ++ [{ who := who, descriptors := d, cells := k }] } }) ∧
  (∀ s : State, s.pool.waiting = [] → serve s = s) ∧
  (∀ (s : State) (w : Waiter) (rest : List Waiter), s.pool.waiting = w :: rest →
    let fits : Prop := w.cells + (64 - s.pool.mgmtCells) ≤ s.pool.freeCells ∧
      w.descriptors + (8 - s.pool.mgmtDescriptors) ≤ s.pool.freeDescriptors
    let p : Pool := { s.pool with
      freeCells := s.pool.freeCells - w.cells
      freeDescriptors := s.pool.freeDescriptors - w.descriptors, waiting := rest }
    (¬ fits → serve s = s) ∧
    (∀ n b, fits → w.who = .gather n → (s.gather n).waiting = some b →
      (∀ c' cls bs, (s.gather n).state = .filling c' cls bs →
        serve s = { s.setGather n { s.gather n with
            state := .filling c' cls (if b.term then bs else bs ++ [b.byte]), waiting := none } with
          pool := p, agenda := .acknowledge n :: .serve :: s.agenda }) ∧
      (∀ c i, (s.gather n).state = .empty → s.inChan n = some c → s.inSettings c = some i →
        serve s = { s.setGather n { s.gather n with
            state := .filling c i.cls (if b.term then [] else [b.byte]), waiting := none } with
          pool := p, agenda := .acknowledge n :: .serve :: s.agenda })) ∧
    (∀ i x g body, fits → w.who = .context i → s.context i = some x →
      s.segment x.handle = some g → g.entries[x.next - 1]? = some body →
      (serve s).pool = p ∧ .serve ∈ (serve s).agenda ∧
      (serve s).queue x.spur = s.queue x.spur ++
        [{ chan := x.chan, origin := .playback (some i), body := body }] ∧
      ∃ y, (serve s).context i = some y ∧ y.count = x.count + 1 ∧ y.phase ≠ .waiting)) ∧
  (∀ (s : State) (who : Claimant),
    (s.leaveWaiting who).pool = { s.pool with
      waiting := s.pool.waiting.filter fun w => w.who ≠ who } ∧
    ((s.leaveWaiting who).agenda = .serve :: s.agenda ↔
      ∃ w rest, s.pool.waiting = w :: rest ∧ w.who = who))
end

