-- ==== Sys2Proof/Laws/State.lean ====
section
/-! SUPPORT. What each update of the state leaves as it stood and what it sets, field by field, so that
no later proof unfolds a record update. -/

namespace Sys2Proof.Machine

variable (s : State)

/-! ### State.push -/

@[simp] theorem State.push_pending (js : List Job) : (s.push js).pending = s.pending := rfl
@[simp] theorem State.push_inReset (js : List Job) : (s.push js).inReset = s.inReset := rfl
@[simp] theorem State.push_trunkIn (js : List Job) : (s.push js).trunkIn = s.trunkIn := rfl
@[simp] theorem State.push_trunkOut (js : List Job) : (s.push js).trunkOut = s.trunkOut := rfl
@[simp] theorem State.push_toakWait (js : List Job) : (s.push js).toakWait = s.toakWait := rfl
@[simp] theorem State.push_rx (js : List Job) : (s.push js).rx = s.rx := rfl
@[simp] theorem State.push_tx (js : List Job) : (s.push js).tx = s.tx := rfl
@[simp] theorem State.push_channels (js : List Job) : (s.push js).channels = s.channels := rfl
@[simp] theorem State.push_columns (js : List Job) : (s.push js).columns = s.columns := rfl
@[simp] theorem State.push_profiles (js : List Job) : (s.push js).profiles = s.profiles := rfl
@[simp] theorem State.push_arbiter (js : List Job) : (s.push js).arbiter = s.arbiter := rfl
@[simp] theorem State.push_notices (js : List Job) : (s.push js).notices = s.notices := rfl
@[simp] theorem State.push_pool (js : List Job) : (s.push js).pool = s.pool := rfl
@[simp] theorem State.push_store (js : List Job) : (s.push js).store = s.store := rfl
@[simp] theorem State.push_engine (js : List Job) : (s.push js).engine = s.engine := rfl
@[simp] theorem State.push_lastReset (js : List Job) : (s.push js).lastReset = s.lastReset := rfl
@[simp] theorem State.push_freeIndex (js : List Job) : (s.push js).freeIndex = s.freeIndex := rfl
@[simp] theorem State.push_agenda (js : List Job) : (s.push js).agenda = js ++ s.agenda := rfl

/-! ### State.later -/

@[simp] theorem State.later_pending (j : Job) : (s.later j).pending = s.pending := rfl
@[simp] theorem State.later_inReset (j : Job) : (s.later j).inReset = s.inReset := rfl
@[simp] theorem State.later_trunkIn (j : Job) : (s.later j).trunkIn = s.trunkIn := rfl
@[simp] theorem State.later_trunkOut (j : Job) : (s.later j).trunkOut = s.trunkOut := rfl
@[simp] theorem State.later_toakWait (j : Job) : (s.later j).toakWait = s.toakWait := rfl
@[simp] theorem State.later_rx (j : Job) : (s.later j).rx = s.rx := rfl
@[simp] theorem State.later_tx (j : Job) : (s.later j).tx = s.tx := rfl
@[simp] theorem State.later_channels (j : Job) : (s.later j).channels = s.channels := rfl
@[simp] theorem State.later_columns (j : Job) : (s.later j).columns = s.columns := rfl
@[simp] theorem State.later_profiles (j : Job) : (s.later j).profiles = s.profiles := rfl
@[simp] theorem State.later_arbiter (j : Job) : (s.later j).arbiter = s.arbiter := rfl
@[simp] theorem State.later_notices (j : Job) : (s.later j).notices = s.notices := rfl
@[simp] theorem State.later_pool (j : Job) : (s.later j).pool = s.pool := rfl
@[simp] theorem State.later_store (j : Job) : (s.later j).store = s.store := rfl
@[simp] theorem State.later_engine (j : Job) : (s.later j).engine = s.engine := rfl
@[simp] theorem State.later_lastReset (j : Job) : (s.later j).lastReset = s.lastReset := rfl
@[simp] theorem State.later_freeIndex (j : Job) : (s.later j).freeIndex = s.freeIndex := rfl
@[simp] theorem State.later_agenda (j : Job) : (s.later j).agenda = s.agenda ++ [j] := rfl

/-! ### State.setChannel -/

@[simp] theorem State.setChannel_pending (c : Chan) (x : Channel) : (s.setChannel c x).pending = s.pending := rfl
@[simp] theorem State.setChannel_inReset (c : Chan) (x : Channel) : (s.setChannel c x).inReset = s.inReset := rfl
@[simp] theorem State.setChannel_trunkIn (c : Chan) (x : Channel) : (s.setChannel c x).trunkIn = s.trunkIn := rfl
@[simp] theorem State.setChannel_trunkOut (c : Chan) (x : Channel) : (s.setChannel c x).trunkOut = s.trunkOut := rfl
@[simp] theorem State.setChannel_toakWait (c : Chan) (x : Channel) : (s.setChannel c x).toakWait = s.toakWait := rfl
@[simp] theorem State.setChannel_rx (c : Chan) (x : Channel) : (s.setChannel c x).rx = s.rx := rfl
@[simp] theorem State.setChannel_tx (c : Chan) (x : Channel) : (s.setChannel c x).tx = s.tx := rfl
@[simp] theorem State.setChannel_columns (c : Chan) (x : Channel) : (s.setChannel c x).columns = s.columns := rfl
@[simp] theorem State.setChannel_profiles (c : Chan) (x : Channel) : (s.setChannel c x).profiles = s.profiles := rfl
@[simp] theorem State.setChannel_arbiter (c : Chan) (x : Channel) : (s.setChannel c x).arbiter = s.arbiter := rfl
@[simp] theorem State.setChannel_notices (c : Chan) (x : Channel) : (s.setChannel c x).notices = s.notices := rfl
@[simp] theorem State.setChannel_pool (c : Chan) (x : Channel) : (s.setChannel c x).pool = s.pool := rfl
@[simp] theorem State.setChannel_store (c : Chan) (x : Channel) : (s.setChannel c x).store = s.store := rfl
@[simp] theorem State.setChannel_engine (c : Chan) (x : Channel) : (s.setChannel c x).engine = s.engine := rfl
@[simp] theorem State.setChannel_lastReset (c : Chan) (x : Channel) : (s.setChannel c x).lastReset = s.lastReset := rfl
@[simp] theorem State.setChannel_freeIndex (c : Chan) (x : Channel) : (s.setChannel c x).freeIndex = s.freeIndex := rfl
@[simp] theorem State.setChannel_agenda (c : Chan) (x : Channel) : (s.setChannel c x).agenda = s.agenda := rfl
@[simp] theorem State.setChannel_channels (c : Chan) (x : Channel) : (s.setChannel c x).channels = s.channels.set c.val x := rfl

/-! ### State.setLink -/

@[simp] theorem State.setLink_pending (c : Chan) (l : Option Link) : (s.setLink c l).pending = s.pending := rfl
@[simp] theorem State.setLink_inReset (c : Chan) (l : Option Link) : (s.setLink c l).inReset = s.inReset := rfl
@[simp] theorem State.setLink_trunkIn (c : Chan) (l : Option Link) : (s.setLink c l).trunkIn = s.trunkIn := rfl
@[simp] theorem State.setLink_trunkOut (c : Chan) (l : Option Link) : (s.setLink c l).trunkOut = s.trunkOut := rfl
@[simp] theorem State.setLink_toakWait (c : Chan) (l : Option Link) : (s.setLink c l).toakWait = s.toakWait := rfl
@[simp] theorem State.setLink_rx (c : Chan) (l : Option Link) : (s.setLink c l).rx = s.rx := rfl
@[simp] theorem State.setLink_tx (c : Chan) (l : Option Link) : (s.setLink c l).tx = s.tx := rfl
@[simp] theorem State.setLink_columns (c : Chan) (l : Option Link) : (s.setLink c l).columns = s.columns := rfl
@[simp] theorem State.setLink_profiles (c : Chan) (l : Option Link) : (s.setLink c l).profiles = s.profiles := rfl
@[simp] theorem State.setLink_arbiter (c : Chan) (l : Option Link) : (s.setLink c l).arbiter = s.arbiter := rfl
@[simp] theorem State.setLink_notices (c : Chan) (l : Option Link) : (s.setLink c l).notices = s.notices := rfl
@[simp] theorem State.setLink_pool (c : Chan) (l : Option Link) : (s.setLink c l).pool = s.pool := rfl
@[simp] theorem State.setLink_store (c : Chan) (l : Option Link) : (s.setLink c l).store = s.store := rfl
@[simp] theorem State.setLink_engine (c : Chan) (l : Option Link) : (s.setLink c l).engine = s.engine := rfl
@[simp] theorem State.setLink_lastReset (c : Chan) (l : Option Link) : (s.setLink c l).lastReset = s.lastReset := rfl
@[simp] theorem State.setLink_freeIndex (c : Chan) (l : Option Link) : (s.setLink c l).freeIndex = s.freeIndex := rfl
@[simp] theorem State.setLink_agenda (c : Chan) (l : Option Link) : (s.setLink c l).agenda = s.agenda := rfl

/-! ### State.countParcel -/

@[simp] theorem State.countParcel_pending (c : Chan) (k : Nat) : (s.countParcel c k).pending = s.pending := rfl
@[simp] theorem State.countParcel_inReset (c : Chan) (k : Nat) : (s.countParcel c k).inReset = s.inReset := rfl
@[simp] theorem State.countParcel_trunkIn (c : Chan) (k : Nat) : (s.countParcel c k).trunkIn = s.trunkIn := rfl
@[simp] theorem State.countParcel_trunkOut (c : Chan) (k : Nat) : (s.countParcel c k).trunkOut = s.trunkOut := rfl
@[simp] theorem State.countParcel_toakWait (c : Chan) (k : Nat) : (s.countParcel c k).toakWait = s.toakWait := rfl
@[simp] theorem State.countParcel_rx (c : Chan) (k : Nat) : (s.countParcel c k).rx = s.rx := rfl
@[simp] theorem State.countParcel_tx (c : Chan) (k : Nat) : (s.countParcel c k).tx = s.tx := rfl
@[simp] theorem State.countParcel_columns (c : Chan) (k : Nat) : (s.countParcel c k).columns = s.columns := rfl
@[simp] theorem State.countParcel_profiles (c : Chan) (k : Nat) : (s.countParcel c k).profiles = s.profiles := rfl
@[simp] theorem State.countParcel_arbiter (c : Chan) (k : Nat) : (s.countParcel c k).arbiter = s.arbiter := rfl
@[simp] theorem State.countParcel_notices (c : Chan) (k : Nat) : (s.countParcel c k).notices = s.notices := rfl
@[simp] theorem State.countParcel_pool (c : Chan) (k : Nat) : (s.countParcel c k).pool = s.pool := rfl
@[simp] theorem State.countParcel_store (c : Chan) (k : Nat) : (s.countParcel c k).store = s.store := rfl
@[simp] theorem State.countParcel_engine (c : Chan) (k : Nat) : (s.countParcel c k).engine = s.engine := rfl
@[simp] theorem State.countParcel_lastReset (c : Chan) (k : Nat) : (s.countParcel c k).lastReset = s.lastReset := rfl
@[simp] theorem State.countParcel_freeIndex (c : Chan) (k : Nat) : (s.countParcel c k).freeIndex = s.freeIndex := rfl
@[simp] theorem State.countParcel_agenda (c : Chan) (k : Nat) : (s.countParcel c k).agenda = s.agenda := rfl

/-! ### State.countDrop -/

@[simp] theorem State.countDrop_pending (c : Chan) : (s.countDrop c).pending = s.pending := rfl
@[simp] theorem State.countDrop_inReset (c : Chan) : (s.countDrop c).inReset = s.inReset := rfl
@[simp] theorem State.countDrop_trunkIn (c : Chan) : (s.countDrop c).trunkIn = s.trunkIn := rfl
@[simp] theorem State.countDrop_trunkOut (c : Chan) : (s.countDrop c).trunkOut = s.trunkOut := rfl
@[simp] theorem State.countDrop_toakWait (c : Chan) : (s.countDrop c).toakWait = s.toakWait := rfl
@[simp] theorem State.countDrop_rx (c : Chan) : (s.countDrop c).rx = s.rx := rfl
@[simp] theorem State.countDrop_tx (c : Chan) : (s.countDrop c).tx = s.tx := rfl
@[simp] theorem State.countDrop_columns (c : Chan) : (s.countDrop c).columns = s.columns := rfl
@[simp] theorem State.countDrop_profiles (c : Chan) : (s.countDrop c).profiles = s.profiles := rfl
@[simp] theorem State.countDrop_arbiter (c : Chan) : (s.countDrop c).arbiter = s.arbiter := rfl
@[simp] theorem State.countDrop_notices (c : Chan) : (s.countDrop c).notices = s.notices := rfl
@[simp] theorem State.countDrop_pool (c : Chan) : (s.countDrop c).pool = s.pool := rfl
@[simp] theorem State.countDrop_store (c : Chan) : (s.countDrop c).store = s.store := rfl
@[simp] theorem State.countDrop_engine (c : Chan) : (s.countDrop c).engine = s.engine := rfl
@[simp] theorem State.countDrop_lastReset (c : Chan) : (s.countDrop c).lastReset = s.lastReset := rfl
@[simp] theorem State.countDrop_freeIndex (c : Chan) : (s.countDrop c).freeIndex = s.freeIndex := rfl
@[simp] theorem State.countDrop_agenda (c : Chan) : (s.countDrop c).agenda = s.agenda := rfl

/-! ### State.setColumn -/

@[simp] theorem State.setColumn_pending (n : Spur) (x : Column) : (s.setColumn n x).pending = s.pending := rfl
@[simp] theorem State.setColumn_inReset (n : Spur) (x : Column) : (s.setColumn n x).inReset = s.inReset := rfl
@[simp] theorem State.setColumn_trunkIn (n : Spur) (x : Column) : (s.setColumn n x).trunkIn = s.trunkIn := rfl
@[simp] theorem State.setColumn_trunkOut (n : Spur) (x : Column) : (s.setColumn n x).trunkOut = s.trunkOut := rfl
@[simp] theorem State.setColumn_toakWait (n : Spur) (x : Column) : (s.setColumn n x).toakWait = s.toakWait := rfl
@[simp] theorem State.setColumn_rx (n : Spur) (x : Column) : (s.setColumn n x).rx = s.rx := rfl
@[simp] theorem State.setColumn_tx (n : Spur) (x : Column) : (s.setColumn n x).tx = s.tx := rfl
@[simp] theorem State.setColumn_channels (n : Spur) (x : Column) : (s.setColumn n x).channels = s.channels := rfl
@[simp] theorem State.setColumn_profiles (n : Spur) (x : Column) : (s.setColumn n x).profiles = s.profiles := rfl
@[simp] theorem State.setColumn_arbiter (n : Spur) (x : Column) : (s.setColumn n x).arbiter = s.arbiter := rfl
@[simp] theorem State.setColumn_notices (n : Spur) (x : Column) : (s.setColumn n x).notices = s.notices := rfl
@[simp] theorem State.setColumn_pool (n : Spur) (x : Column) : (s.setColumn n x).pool = s.pool := rfl
@[simp] theorem State.setColumn_store (n : Spur) (x : Column) : (s.setColumn n x).store = s.store := rfl
@[simp] theorem State.setColumn_engine (n : Spur) (x : Column) : (s.setColumn n x).engine = s.engine := rfl
@[simp] theorem State.setColumn_lastReset (n : Spur) (x : Column) : (s.setColumn n x).lastReset = s.lastReset := rfl
@[simp] theorem State.setColumn_freeIndex (n : Spur) (x : Column) : (s.setColumn n x).freeIndex = s.freeIndex := rfl
@[simp] theorem State.setColumn_agenda (n : Spur) (x : Column) : (s.setColumn n x).agenda = s.agenda := rfl
@[simp] theorem State.setColumn_columns (n : Spur) (x : Column) : (s.setColumn n x).columns = s.columns.set n.val x := rfl

/-! ### State.setLane -/

@[simp] theorem State.setLane_pending (n : Spur) (l : Lane) : (s.setLane n l).pending = s.pending := rfl
@[simp] theorem State.setLane_inReset (n : Spur) (l : Lane) : (s.setLane n l).inReset = s.inReset := rfl
@[simp] theorem State.setLane_trunkIn (n : Spur) (l : Lane) : (s.setLane n l).trunkIn = s.trunkIn := rfl
@[simp] theorem State.setLane_trunkOut (n : Spur) (l : Lane) : (s.setLane n l).trunkOut = s.trunkOut := rfl
@[simp] theorem State.setLane_toakWait (n : Spur) (l : Lane) : (s.setLane n l).toakWait = s.toakWait := rfl
@[simp] theorem State.setLane_rx (n : Spur) (l : Lane) : (s.setLane n l).rx = s.rx := rfl
@[simp] theorem State.setLane_tx (n : Spur) (l : Lane) : (s.setLane n l).tx = s.tx := rfl
@[simp] theorem State.setLane_channels (n : Spur) (l : Lane) : (s.setLane n l).channels = s.channels := rfl
@[simp] theorem State.setLane_profiles (n : Spur) (l : Lane) : (s.setLane n l).profiles = s.profiles := rfl
@[simp] theorem State.setLane_arbiter (n : Spur) (l : Lane) : (s.setLane n l).arbiter = s.arbiter := rfl
@[simp] theorem State.setLane_notices (n : Spur) (l : Lane) : (s.setLane n l).notices = s.notices := rfl
@[simp] theorem State.setLane_pool (n : Spur) (l : Lane) : (s.setLane n l).pool = s.pool := rfl
@[simp] theorem State.setLane_store (n : Spur) (l : Lane) : (s.setLane n l).store = s.store := rfl
@[simp] theorem State.setLane_engine (n : Spur) (l : Lane) : (s.setLane n l).engine = s.engine := rfl
@[simp] theorem State.setLane_lastReset (n : Spur) (l : Lane) : (s.setLane n l).lastReset = s.lastReset := rfl
@[simp] theorem State.setLane_freeIndex (n : Spur) (l : Lane) : (s.setLane n l).freeIndex = s.freeIndex := rfl
@[simp] theorem State.setLane_agenda (n : Spur) (l : Lane) : (s.setLane n l).agenda = s.agenda := rfl

/-! ### State.setGather -/

@[simp] theorem State.setGather_pending (n : Spur) (g : Gather) : (s.setGather n g).pending = s.pending := rfl
@[simp] theorem State.setGather_inReset (n : Spur) (g : Gather) : (s.setGather n g).inReset = s.inReset := rfl
@[simp] theorem State.setGather_trunkIn (n : Spur) (g : Gather) : (s.setGather n g).trunkIn = s.trunkIn := rfl
@[simp] theorem State.setGather_trunkOut (n : Spur) (g : Gather) : (s.setGather n g).trunkOut = s.trunkOut := rfl
@[simp] theorem State.setGather_toakWait (n : Spur) (g : Gather) : (s.setGather n g).toakWait = s.toakWait := rfl
@[simp] theorem State.setGather_rx (n : Spur) (g : Gather) : (s.setGather n g).rx = s.rx := rfl
@[simp] theorem State.setGather_tx (n : Spur) (g : Gather) : (s.setGather n g).tx = s.tx := rfl
@[simp] theorem State.setGather_channels (n : Spur) (g : Gather) : (s.setGather n g).channels = s.channels := rfl
@[simp] theorem State.setGather_profiles (n : Spur) (g : Gather) : (s.setGather n g).profiles = s.profiles := rfl
@[simp] theorem State.setGather_arbiter (n : Spur) (g : Gather) : (s.setGather n g).arbiter = s.arbiter := rfl
@[simp] theorem State.setGather_notices (n : Spur) (g : Gather) : (s.setGather n g).notices = s.notices := rfl
@[simp] theorem State.setGather_pool (n : Spur) (g : Gather) : (s.setGather n g).pool = s.pool := rfl
@[simp] theorem State.setGather_store (n : Spur) (g : Gather) : (s.setGather n g).store = s.store := rfl
@[simp] theorem State.setGather_engine (n : Spur) (g : Gather) : (s.setGather n g).engine = s.engine := rfl
@[simp] theorem State.setGather_lastReset (n : Spur) (g : Gather) : (s.setGather n g).lastReset = s.lastReset := rfl
@[simp] theorem State.setGather_freeIndex (n : Spur) (g : Gather) : (s.setGather n g).freeIndex = s.freeIndex := rfl
@[simp] theorem State.setGather_agenda (n : Spur) (g : Gather) : (s.setGather n g).agenda = s.agenda := rfl

/-! ### State.setQueue -/

@[simp] theorem State.setQueue_pending (n : Spur) (q : List Outbound) : (s.setQueue n q).pending = s.pending := rfl
@[simp] theorem State.setQueue_inReset (n : Spur) (q : List Outbound) : (s.setQueue n q).inReset = s.inReset := rfl
@[simp] theorem State.setQueue_trunkIn (n : Spur) (q : List Outbound) : (s.setQueue n q).trunkIn = s.trunkIn := rfl
@[simp] theorem State.setQueue_trunkOut (n : Spur) (q : List Outbound) : (s.setQueue n q).trunkOut = s.trunkOut := rfl
@[simp] theorem State.setQueue_toakWait (n : Spur) (q : List Outbound) : (s.setQueue n q).toakWait = s.toakWait := rfl
@[simp] theorem State.setQueue_rx (n : Spur) (q : List Outbound) : (s.setQueue n q).rx = s.rx := rfl
@[simp] theorem State.setQueue_tx (n : Spur) (q : List Outbound) : (s.setQueue n q).tx = s.tx := rfl
@[simp] theorem State.setQueue_channels (n : Spur) (q : List Outbound) : (s.setQueue n q).channels = s.channels := rfl
@[simp] theorem State.setQueue_profiles (n : Spur) (q : List Outbound) : (s.setQueue n q).profiles = s.profiles := rfl
@[simp] theorem State.setQueue_arbiter (n : Spur) (q : List Outbound) : (s.setQueue n q).arbiter = s.arbiter := rfl
@[simp] theorem State.setQueue_notices (n : Spur) (q : List Outbound) : (s.setQueue n q).notices = s.notices := rfl
@[simp] theorem State.setQueue_pool (n : Spur) (q : List Outbound) : (s.setQueue n q).pool = s.pool := rfl
@[simp] theorem State.setQueue_store (n : Spur) (q : List Outbound) : (s.setQueue n q).store = s.store := rfl
@[simp] theorem State.setQueue_engine (n : Spur) (q : List Outbound) : (s.setQueue n q).engine = s.engine := rfl
@[simp] theorem State.setQueue_lastReset (n : Spur) (q : List Outbound) : (s.setQueue n q).lastReset = s.lastReset := rfl
@[simp] theorem State.setQueue_freeIndex (n : Spur) (q : List Outbound) : (s.setQueue n q).freeIndex = s.freeIndex := rfl
@[simp] theorem State.setQueue_agenda (n : Spur) (q : List Outbound) : (s.setQueue n q).agenda = s.agenda := rfl

/-! ### State.setGatherState -/

@[simp] theorem State.setGatherState_pending (n : Spur) (g : GatherState) : (s.setGatherState n g).pending = s.pending := rfl
@[simp] theorem State.setGatherState_inReset (n : Spur) (g : GatherState) : (s.setGatherState n g).inReset = s.inReset := rfl
@[simp] theorem State.setGatherState_trunkIn (n : Spur) (g : GatherState) : (s.setGatherState n g).trunkIn = s.trunkIn := rfl
@[simp] theorem State.setGatherState_trunkOut (n : Spur) (g : GatherState) : (s.setGatherState n g).trunkOut = s.trunkOut := rfl
@[simp] theorem State.setGatherState_toakWait (n : Spur) (g : GatherState) : (s.setGatherState n g).toakWait = s.toakWait := rfl
@[simp] theorem State.setGatherState_rx (n : Spur) (g : GatherState) : (s.setGatherState n g).rx = s.rx := rfl
@[simp] theorem State.setGatherState_tx (n : Spur) (g : GatherState) : (s.setGatherState n g).tx = s.tx := rfl
@[simp] theorem State.setGatherState_channels (n : Spur) (g : GatherState) : (s.setGatherState n g).channels = s.channels := rfl
@[simp] theorem State.setGatherState_profiles (n : Spur) (g : GatherState) : (s.setGatherState n g).profiles = s.profiles := rfl
@[simp] theorem State.setGatherState_arbiter (n : Spur) (g : GatherState) : (s.setGatherState n g).arbiter = s.arbiter := rfl
@[simp] theorem State.setGatherState_notices (n : Spur) (g : GatherState) : (s.setGatherState n g).notices = s.notices := rfl
@[simp] theorem State.setGatherState_pool (n : Spur) (g : GatherState) : (s.setGatherState n g).pool = s.pool := rfl
@[simp] theorem State.setGatherState_store (n : Spur) (g : GatherState) : (s.setGatherState n g).store = s.store := rfl
@[simp] theorem State.setGatherState_engine (n : Spur) (g : GatherState) : (s.setGatherState n g).engine = s.engine := rfl
@[simp] theorem State.setGatherState_lastReset (n : Spur) (g : GatherState) : (s.setGatherState n g).lastReset = s.lastReset := rfl
@[simp] theorem State.setGatherState_freeIndex (n : Spur) (g : GatherState) : (s.setGatherState n g).freeIndex = s.freeIndex := rfl
@[simp] theorem State.setGatherState_agenda (n : Spur) (g : GatherState) : (s.setGatherState n g).agenda = s.agenda := rfl

/-! ### State.setSending -/

@[simp] theorem State.setSending_pending (n : Spur) (x : Sending) : (s.setSending n x).pending = s.pending := rfl
@[simp] theorem State.setSending_inReset (n : Spur) (x : Sending) : (s.setSending n x).inReset = s.inReset := rfl
@[simp] theorem State.setSending_trunkIn (n : Spur) (x : Sending) : (s.setSending n x).trunkIn = s.trunkIn := rfl
@[simp] theorem State.setSending_trunkOut (n : Spur) (x : Sending) : (s.setSending n x).trunkOut = s.trunkOut := rfl
@[simp] theorem State.setSending_toakWait (n : Spur) (x : Sending) : (s.setSending n x).toakWait = s.toakWait := rfl
@[simp] theorem State.setSending_rx (n : Spur) (x : Sending) : (s.setSending n x).rx = s.rx := rfl
@[simp] theorem State.setSending_tx (n : Spur) (x : Sending) : (s.setSending n x).tx = s.tx := rfl
@[simp] theorem State.setSending_channels (n : Spur) (x : Sending) : (s.setSending n x).channels = s.channels := rfl
@[simp] theorem State.setSending_profiles (n : Spur) (x : Sending) : (s.setSending n x).profiles = s.profiles := rfl
@[simp] theorem State.setSending_arbiter (n : Spur) (x : Sending) : (s.setSending n x).arbiter = s.arbiter := rfl
@[simp] theorem State.setSending_notices (n : Spur) (x : Sending) : (s.setSending n x).notices = s.notices := rfl
@[simp] theorem State.setSending_pool (n : Spur) (x : Sending) : (s.setSending n x).pool = s.pool := rfl
@[simp] theorem State.setSending_store (n : Spur) (x : Sending) : (s.setSending n x).store = s.store := rfl
@[simp] theorem State.setSending_engine (n : Spur) (x : Sending) : (s.setSending n x).engine = s.engine := rfl
@[simp] theorem State.setSending_lastReset (n : Spur) (x : Sending) : (s.setSending n x).lastReset = s.lastReset := rfl
@[simp] theorem State.setSending_freeIndex (n : Spur) (x : Sending) : (s.setSending n x).freeIndex = s.freeIndex := rfl
@[simp] theorem State.setSending_agenda (n : Spur) (x : Sending) : (s.setSending n x).agenda = s.agenda := rfl

/-! ### State.takeInSnap -/

@[simp] theorem State.takeInSnap_pending (n : Spur) (p : Profile) : (s.takeInSnap n p).pending = s.pending := rfl
@[simp] theorem State.takeInSnap_inReset (n : Spur) (p : Profile) : (s.takeInSnap n p).inReset = s.inReset := rfl
@[simp] theorem State.takeInSnap_trunkIn (n : Spur) (p : Profile) : (s.takeInSnap n p).trunkIn = s.trunkIn := rfl
@[simp] theorem State.takeInSnap_trunkOut (n : Spur) (p : Profile) : (s.takeInSnap n p).trunkOut = s.trunkOut := rfl
@[simp] theorem State.takeInSnap_toakWait (n : Spur) (p : Profile) : (s.takeInSnap n p).toakWait = s.toakWait := rfl
@[simp] theorem State.takeInSnap_rx (n : Spur) (p : Profile) : (s.takeInSnap n p).rx = s.rx := rfl
@[simp] theorem State.takeInSnap_tx (n : Spur) (p : Profile) : (s.takeInSnap n p).tx = s.tx := rfl
@[simp] theorem State.takeInSnap_channels (n : Spur) (p : Profile) : (s.takeInSnap n p).channels = s.channels := rfl
@[simp] theorem State.takeInSnap_profiles (n : Spur) (p : Profile) : (s.takeInSnap n p).profiles = s.profiles := rfl
@[simp] theorem State.takeInSnap_arbiter (n : Spur) (p : Profile) : (s.takeInSnap n p).arbiter = s.arbiter := rfl
@[simp] theorem State.takeInSnap_notices (n : Spur) (p : Profile) : (s.takeInSnap n p).notices = s.notices := rfl
@[simp] theorem State.takeInSnap_pool (n : Spur) (p : Profile) : (s.takeInSnap n p).pool = s.pool := rfl
@[simp] theorem State.takeInSnap_store (n : Spur) (p : Profile) : (s.takeInSnap n p).store = s.store := rfl
@[simp] theorem State.takeInSnap_engine (n : Spur) (p : Profile) : (s.takeInSnap n p).engine = s.engine := rfl
@[simp] theorem State.takeInSnap_lastReset (n : Spur) (p : Profile) : (s.takeInSnap n p).lastReset = s.lastReset := rfl
@[simp] theorem State.takeInSnap_freeIndex (n : Spur) (p : Profile) : (s.takeInSnap n p).freeIndex = s.freeIndex := rfl
@[simp] theorem State.takeInSnap_agenda (n : Spur) (p : Profile) : (s.takeInSnap n p).agenda = s.agenda := rfl

/-! ### State.setReady -/

@[simp] theorem State.setReady_pending (n : Spur) (b : Bool) (d : Byte) : (s.setReady n b d).pending = s.pending := rfl
@[simp] theorem State.setReady_inReset (n : Spur) (b : Bool) (d : Byte) : (s.setReady n b d).inReset = s.inReset := rfl
@[simp] theorem State.setReady_trunkIn (n : Spur) (b : Bool) (d : Byte) : (s.setReady n b d).trunkIn = s.trunkIn := rfl
@[simp] theorem State.setReady_trunkOut (n : Spur) (b : Bool) (d : Byte) : (s.setReady n b d).trunkOut = s.trunkOut := rfl
@[simp] theorem State.setReady_toakWait (n : Spur) (b : Bool) (d : Byte) : (s.setReady n b d).toakWait = s.toakWait := rfl
@[simp] theorem State.setReady_rx (n : Spur) (b : Bool) (d : Byte) : (s.setReady n b d).rx = s.rx := rfl
@[simp] theorem State.setReady_tx (n : Spur) (b : Bool) (d : Byte) : (s.setReady n b d).tx = s.tx := rfl
@[simp] theorem State.setReady_channels (n : Spur) (b : Bool) (d : Byte) : (s.setReady n b d).channels = s.channels := rfl
@[simp] theorem State.setReady_profiles (n : Spur) (b : Bool) (d : Byte) : (s.setReady n b d).profiles = s.profiles := rfl
@[simp] theorem State.setReady_arbiter (n : Spur) (b : Bool) (d : Byte) : (s.setReady n b d).arbiter = s.arbiter := rfl
@[simp] theorem State.setReady_notices (n : Spur) (b : Bool) (d : Byte) : (s.setReady n b d).notices = s.notices := rfl
@[simp] theorem State.setReady_pool (n : Spur) (b : Bool) (d : Byte) : (s.setReady n b d).pool = s.pool := rfl
@[simp] theorem State.setReady_store (n : Spur) (b : Bool) (d : Byte) : (s.setReady n b d).store = s.store := rfl
@[simp] theorem State.setReady_engine (n : Spur) (b : Bool) (d : Byte) : (s.setReady n b d).engine = s.engine := rfl
@[simp] theorem State.setReady_lastReset (n : Spur) (b : Bool) (d : Byte) : (s.setReady n b d).lastReset = s.lastReset := rfl
@[simp] theorem State.setReady_freeIndex (n : Spur) (b : Bool) (d : Byte) : (s.setReady n b d).freeIndex = s.freeIndex := rfl
@[simp] theorem State.setReady_agenda (n : Spur) (b : Bool) (d : Byte) : (s.setReady n b d).agenda = s.agenda := rfl

/-! ### State.setAtn -/

@[simp] theorem State.setAtn_pending (n : Spur) (b : Bool) : (s.setAtn n b).pending = s.pending := rfl
@[simp] theorem State.setAtn_inReset (n : Spur) (b : Bool) : (s.setAtn n b).inReset = s.inReset := rfl
@[simp] theorem State.setAtn_trunkIn (n : Spur) (b : Bool) : (s.setAtn n b).trunkIn = s.trunkIn := rfl
@[simp] theorem State.setAtn_trunkOut (n : Spur) (b : Bool) : (s.setAtn n b).trunkOut = s.trunkOut := rfl
@[simp] theorem State.setAtn_toakWait (n : Spur) (b : Bool) : (s.setAtn n b).toakWait = s.toakWait := rfl
@[simp] theorem State.setAtn_rx (n : Spur) (b : Bool) : (s.setAtn n b).rx = s.rx := rfl
@[simp] theorem State.setAtn_tx (n : Spur) (b : Bool) : (s.setAtn n b).tx = s.tx := rfl
@[simp] theorem State.setAtn_channels (n : Spur) (b : Bool) : (s.setAtn n b).channels = s.channels := rfl
@[simp] theorem State.setAtn_profiles (n : Spur) (b : Bool) : (s.setAtn n b).profiles = s.profiles := rfl
@[simp] theorem State.setAtn_arbiter (n : Spur) (b : Bool) : (s.setAtn n b).arbiter = s.arbiter := rfl
@[simp] theorem State.setAtn_notices (n : Spur) (b : Bool) : (s.setAtn n b).notices = s.notices := rfl
@[simp] theorem State.setAtn_pool (n : Spur) (b : Bool) : (s.setAtn n b).pool = s.pool := rfl
@[simp] theorem State.setAtn_store (n : Spur) (b : Bool) : (s.setAtn n b).store = s.store := rfl
@[simp] theorem State.setAtn_engine (n : Spur) (b : Bool) : (s.setAtn n b).engine = s.engine := rfl
@[simp] theorem State.setAtn_lastReset (n : Spur) (b : Bool) : (s.setAtn n b).lastReset = s.lastReset := rfl
@[simp] theorem State.setAtn_freeIndex (n : Spur) (b : Bool) : (s.setAtn n b).freeIndex = s.freeIndex := rfl
@[simp] theorem State.setAtn_agenda (n : Spur) (b : Bool) : (s.setAtn n b).agenda = s.agenda := rfl

/-! ### State.setDataIn -/

@[simp] theorem State.setDataIn_pending (n : Spur) (d : Byte) : (s.setDataIn n d).pending = s.pending := rfl
@[simp] theorem State.setDataIn_inReset (n : Spur) (d : Byte) : (s.setDataIn n d).inReset = s.inReset := rfl
@[simp] theorem State.setDataIn_trunkIn (n : Spur) (d : Byte) : (s.setDataIn n d).trunkIn = s.trunkIn := rfl
@[simp] theorem State.setDataIn_trunkOut (n : Spur) (d : Byte) : (s.setDataIn n d).trunkOut = s.trunkOut := rfl
@[simp] theorem State.setDataIn_toakWait (n : Spur) (d : Byte) : (s.setDataIn n d).toakWait = s.toakWait := rfl
@[simp] theorem State.setDataIn_rx (n : Spur) (d : Byte) : (s.setDataIn n d).rx = s.rx := rfl
@[simp] theorem State.setDataIn_tx (n : Spur) (d : Byte) : (s.setDataIn n d).tx = s.tx := rfl
@[simp] theorem State.setDataIn_channels (n : Spur) (d : Byte) : (s.setDataIn n d).channels = s.channels := rfl
@[simp] theorem State.setDataIn_profiles (n : Spur) (d : Byte) : (s.setDataIn n d).profiles = s.profiles := rfl
@[simp] theorem State.setDataIn_arbiter (n : Spur) (d : Byte) : (s.setDataIn n d).arbiter = s.arbiter := rfl
@[simp] theorem State.setDataIn_notices (n : Spur) (d : Byte) : (s.setDataIn n d).notices = s.notices := rfl
@[simp] theorem State.setDataIn_pool (n : Spur) (d : Byte) : (s.setDataIn n d).pool = s.pool := rfl
@[simp] theorem State.setDataIn_store (n : Spur) (d : Byte) : (s.setDataIn n d).store = s.store := rfl
@[simp] theorem State.setDataIn_engine (n : Spur) (d : Byte) : (s.setDataIn n d).engine = s.engine := rfl
@[simp] theorem State.setDataIn_lastReset (n : Spur) (d : Byte) : (s.setDataIn n d).lastReset = s.lastReset := rfl
@[simp] theorem State.setDataIn_freeIndex (n : Spur) (d : Byte) : (s.setDataIn n d).freeIndex = s.freeIndex := rfl
@[simp] theorem State.setDataIn_agenda (n : Spur) (d : Byte) : (s.setDataIn n d).agenda = s.agenda := rfl

/-! ### State.setSegment -/

@[simp] theorem State.setSegment_pending (h : Handle) (x : Option Segment) : (s.setSegment h x).pending = s.pending := rfl
@[simp] theorem State.setSegment_inReset (h : Handle) (x : Option Segment) : (s.setSegment h x).inReset = s.inReset := rfl
@[simp] theorem State.setSegment_trunkIn (h : Handle) (x : Option Segment) : (s.setSegment h x).trunkIn = s.trunkIn := rfl
@[simp] theorem State.setSegment_trunkOut (h : Handle) (x : Option Segment) : (s.setSegment h x).trunkOut = s.trunkOut := rfl
@[simp] theorem State.setSegment_toakWait (h : Handle) (x : Option Segment) : (s.setSegment h x).toakWait = s.toakWait := rfl
@[simp] theorem State.setSegment_rx (h : Handle) (x : Option Segment) : (s.setSegment h x).rx = s.rx := rfl
@[simp] theorem State.setSegment_tx (h : Handle) (x : Option Segment) : (s.setSegment h x).tx = s.tx := rfl
@[simp] theorem State.setSegment_channels (h : Handle) (x : Option Segment) : (s.setSegment h x).channels = s.channels := rfl
@[simp] theorem State.setSegment_columns (h : Handle) (x : Option Segment) : (s.setSegment h x).columns = s.columns := rfl
@[simp] theorem State.setSegment_profiles (h : Handle) (x : Option Segment) : (s.setSegment h x).profiles = s.profiles := rfl
@[simp] theorem State.setSegment_arbiter (h : Handle) (x : Option Segment) : (s.setSegment h x).arbiter = s.arbiter := rfl
@[simp] theorem State.setSegment_notices (h : Handle) (x : Option Segment) : (s.setSegment h x).notices = s.notices := rfl
@[simp] theorem State.setSegment_pool (h : Handle) (x : Option Segment) : (s.setSegment h x).pool = s.pool := rfl
@[simp] theorem State.setSegment_engine (h : Handle) (x : Option Segment) : (s.setSegment h x).engine = s.engine := rfl
@[simp] theorem State.setSegment_lastReset (h : Handle) (x : Option Segment) : (s.setSegment h x).lastReset = s.lastReset := rfl
@[simp] theorem State.setSegment_freeIndex (h : Handle) (x : Option Segment) : (s.setSegment h x).freeIndex = s.freeIndex := rfl
@[simp] theorem State.setSegment_agenda (h : Handle) (x : Option Segment) : (s.setSegment h x).agenda = s.agenda := rfl

/-! ### State.setContext -/

@[simp] theorem State.setContext_pending (i : Context) (x : Option Playback) : (s.setContext i x).pending = s.pending := rfl
@[simp] theorem State.setContext_inReset (i : Context) (x : Option Playback) : (s.setContext i x).inReset = s.inReset := rfl
@[simp] theorem State.setContext_trunkIn (i : Context) (x : Option Playback) : (s.setContext i x).trunkIn = s.trunkIn := rfl
@[simp] theorem State.setContext_trunkOut (i : Context) (x : Option Playback) : (s.setContext i x).trunkOut = s.trunkOut := rfl
@[simp] theorem State.setContext_toakWait (i : Context) (x : Option Playback) : (s.setContext i x).toakWait = s.toakWait := rfl
@[simp] theorem State.setContext_rx (i : Context) (x : Option Playback) : (s.setContext i x).rx = s.rx := rfl
@[simp] theorem State.setContext_tx (i : Context) (x : Option Playback) : (s.setContext i x).tx = s.tx := rfl
@[simp] theorem State.setContext_channels (i : Context) (x : Option Playback) : (s.setContext i x).channels = s.channels := rfl
@[simp] theorem State.setContext_columns (i : Context) (x : Option Playback) : (s.setContext i x).columns = s.columns := rfl
@[simp] theorem State.setContext_profiles (i : Context) (x : Option Playback) : (s.setContext i x).profiles = s.profiles := rfl
@[simp] theorem State.setContext_arbiter (i : Context) (x : Option Playback) : (s.setContext i x).arbiter = s.arbiter := rfl
@[simp] theorem State.setContext_notices (i : Context) (x : Option Playback) : (s.setContext i x).notices = s.notices := rfl
@[simp] theorem State.setContext_pool (i : Context) (x : Option Playback) : (s.setContext i x).pool = s.pool := rfl
@[simp] theorem State.setContext_engine (i : Context) (x : Option Playback) : (s.setContext i x).engine = s.engine := rfl
@[simp] theorem State.setContext_lastReset (i : Context) (x : Option Playback) : (s.setContext i x).lastReset = s.lastReset := rfl
@[simp] theorem State.setContext_freeIndex (i : Context) (x : Option Playback) : (s.setContext i x).freeIndex = s.freeIndex := rfl
@[simp] theorem State.setContext_agenda (i : Context) (x : Option Playback) : (s.setContext i x).agenda = s.agenda := rfl

/-! ### State.giveBack -/

@[simp] theorem State.giveBack_pending (m : Bool) (d k : Nat) : (s.giveBack m d k).pending = s.pending := rfl
@[simp] theorem State.giveBack_inReset (m : Bool) (d k : Nat) : (s.giveBack m d k).inReset = s.inReset := rfl
@[simp] theorem State.giveBack_trunkIn (m : Bool) (d k : Nat) : (s.giveBack m d k).trunkIn = s.trunkIn := rfl
@[simp] theorem State.giveBack_trunkOut (m : Bool) (d k : Nat) : (s.giveBack m d k).trunkOut = s.trunkOut := rfl
@[simp] theorem State.giveBack_toakWait (m : Bool) (d k : Nat) : (s.giveBack m d k).toakWait = s.toakWait := rfl
@[simp] theorem State.giveBack_rx (m : Bool) (d k : Nat) : (s.giveBack m d k).rx = s.rx := rfl
@[simp] theorem State.giveBack_tx (m : Bool) (d k : Nat) : (s.giveBack m d k).tx = s.tx := rfl
@[simp] theorem State.giveBack_channels (m : Bool) (d k : Nat) : (s.giveBack m d k).channels = s.channels := rfl
@[simp] theorem State.giveBack_columns (m : Bool) (d k : Nat) : (s.giveBack m d k).columns = s.columns := rfl
@[simp] theorem State.giveBack_profiles (m : Bool) (d k : Nat) : (s.giveBack m d k).profiles = s.profiles := rfl
@[simp] theorem State.giveBack_arbiter (m : Bool) (d k : Nat) : (s.giveBack m d k).arbiter = s.arbiter := rfl
@[simp] theorem State.giveBack_notices (m : Bool) (d k : Nat) : (s.giveBack m d k).notices = s.notices := rfl
@[simp] theorem State.giveBack_store (m : Bool) (d k : Nat) : (s.giveBack m d k).store = s.store := rfl
@[simp] theorem State.giveBack_engine (m : Bool) (d k : Nat) : (s.giveBack m d k).engine = s.engine := rfl
@[simp] theorem State.giveBack_lastReset (m : Bool) (d k : Nat) : (s.giveBack m d k).lastReset = s.lastReset := rfl
@[simp] theorem State.giveBack_freeIndex (m : Bool) (d k : Nat) : (s.giveBack m d k).freeIndex = s.freeIndex := rfl
@[simp] theorem State.giveBack_pool (m : Bool) (d k : Nat) : (s.giveBack m d k).pool = s.pool.put m d k := rfl
@[simp] theorem State.giveBack_agenda (m : Bool) (d k : Nat) : (s.giveBack m d k).agenda = .serve :: s.agenda := rfl

/-! ### State.joinWaiting -/

@[simp] theorem State.joinWaiting_pending (w : Claimant) (d k : Nat) : (s.joinWaiting w d k).pending = s.pending := rfl
@[simp] theorem State.joinWaiting_inReset (w : Claimant) (d k : Nat) : (s.joinWaiting w d k).inReset = s.inReset := rfl
@[simp] theorem State.joinWaiting_trunkIn (w : Claimant) (d k : Nat) : (s.joinWaiting w d k).trunkIn = s.trunkIn := rfl
@[simp] theorem State.joinWaiting_trunkOut (w : Claimant) (d k : Nat) : (s.joinWaiting w d k).trunkOut = s.trunkOut := rfl
@[simp] theorem State.joinWaiting_toakWait (w : Claimant) (d k : Nat) : (s.joinWaiting w d k).toakWait = s.toakWait := rfl
@[simp] theorem State.joinWaiting_rx (w : Claimant) (d k : Nat) : (s.joinWaiting w d k).rx = s.rx := rfl
@[simp] theorem State.joinWaiting_tx (w : Claimant) (d k : Nat) : (s.joinWaiting w d k).tx = s.tx := rfl
@[simp] theorem State.joinWaiting_channels (w : Claimant) (d k : Nat) : (s.joinWaiting w d k).channels = s.channels := rfl
@[simp] theorem State.joinWaiting_columns (w : Claimant) (d k : Nat) : (s.joinWaiting w d k).columns = s.columns := rfl
@[simp] theorem State.joinWaiting_profiles (w : Claimant) (d k : Nat) : (s.joinWaiting w d k).profiles = s.profiles := rfl
@[simp] theorem State.joinWaiting_arbiter (w : Claimant) (d k : Nat) : (s.joinWaiting w d k).arbiter = s.arbiter := rfl
@[simp] theorem State.joinWaiting_notices (w : Claimant) (d k : Nat) : (s.joinWaiting w d k).notices = s.notices := rfl
@[simp] theorem State.joinWaiting_store (w : Claimant) (d k : Nat) : (s.joinWaiting w d k).store = s.store := rfl
@[simp] theorem State.joinWaiting_engine (w : Claimant) (d k : Nat) : (s.joinWaiting w d k).engine = s.engine := rfl
@[simp] theorem State.joinWaiting_lastReset (w : Claimant) (d k : Nat) : (s.joinWaiting w d k).lastReset = s.lastReset := rfl
@[simp] theorem State.joinWaiting_freeIndex (w : Claimant) (d k : Nat) : (s.joinWaiting w d k).freeIndex = s.freeIndex := rfl
@[simp] theorem State.joinWaiting_agenda (w : Claimant) (d k : Nat) : (s.joinWaiting w d k).agenda = s.agenda := rfl

/-! ### State.setRx -/

@[simp] theorem State.setRx_pending (r : Receiver) : (s.setRx r).pending = s.pending := rfl
@[simp] theorem State.setRx_inReset (r : Receiver) : (s.setRx r).inReset = s.inReset := rfl
@[simp] theorem State.setRx_trunkIn (r : Receiver) : (s.setRx r).trunkIn = s.trunkIn := rfl
@[simp] theorem State.setRx_trunkOut (r : Receiver) : (s.setRx r).trunkOut = s.trunkOut := rfl
@[simp] theorem State.setRx_toakWait (r : Receiver) : (s.setRx r).toakWait = s.toakWait := rfl
@[simp] theorem State.setRx_tx (r : Receiver) : (s.setRx r).tx = s.tx := rfl
@[simp] theorem State.setRx_channels (r : Receiver) : (s.setRx r).channels = s.channels := rfl
@[simp] theorem State.setRx_columns (r : Receiver) : (s.setRx r).columns = s.columns := rfl
@[simp] theorem State.setRx_profiles (r : Receiver) : (s.setRx r).profiles = s.profiles := rfl
@[simp] theorem State.setRx_arbiter (r : Receiver) : (s.setRx r).arbiter = s.arbiter := rfl
@[simp] theorem State.setRx_notices (r : Receiver) : (s.setRx r).notices = s.notices := rfl
@[simp] theorem State.setRx_pool (r : Receiver) : (s.setRx r).pool = s.pool := rfl
@[simp] theorem State.setRx_store (r : Receiver) : (s.setRx r).store = s.store := rfl
@[simp] theorem State.setRx_engine (r : Receiver) : (s.setRx r).engine = s.engine := rfl
@[simp] theorem State.setRx_lastReset (r : Receiver) : (s.setRx r).lastReset = s.lastReset := rfl
@[simp] theorem State.setRx_freeIndex (r : Receiver) : (s.setRx r).freeIndex = s.freeIndex := rfl
@[simp] theorem State.setRx_agenda (r : Receiver) : (s.setRx r).agenda = s.agenda := rfl
@[simp] theorem State.setRx_rx (r : Receiver) : (s.setRx r).rx = r := rfl

/-! ### State.countTrunk -/

@[simp] theorem State.countTrunk_pending (f : TrunkCounts → TrunkCounts) : (s.countTrunk f).pending = s.pending := rfl
@[simp] theorem State.countTrunk_inReset (f : TrunkCounts → TrunkCounts) : (s.countTrunk f).inReset = s.inReset := rfl
@[simp] theorem State.countTrunk_trunkIn (f : TrunkCounts → TrunkCounts) : (s.countTrunk f).trunkIn = s.trunkIn := rfl
@[simp] theorem State.countTrunk_trunkOut (f : TrunkCounts → TrunkCounts) : (s.countTrunk f).trunkOut = s.trunkOut := rfl
@[simp] theorem State.countTrunk_toakWait (f : TrunkCounts → TrunkCounts) : (s.countTrunk f).toakWait = s.toakWait := rfl
@[simp] theorem State.countTrunk_tx (f : TrunkCounts → TrunkCounts) : (s.countTrunk f).tx = s.tx := rfl
@[simp] theorem State.countTrunk_channels (f : TrunkCounts → TrunkCounts) : (s.countTrunk f).channels = s.channels := rfl
@[simp] theorem State.countTrunk_columns (f : TrunkCounts → TrunkCounts) : (s.countTrunk f).columns = s.columns := rfl
@[simp] theorem State.countTrunk_profiles (f : TrunkCounts → TrunkCounts) : (s.countTrunk f).profiles = s.profiles := rfl
@[simp] theorem State.countTrunk_arbiter (f : TrunkCounts → TrunkCounts) : (s.countTrunk f).arbiter = s.arbiter := rfl
@[simp] theorem State.countTrunk_notices (f : TrunkCounts → TrunkCounts) : (s.countTrunk f).notices = s.notices := rfl
@[simp] theorem State.countTrunk_pool (f : TrunkCounts → TrunkCounts) : (s.countTrunk f).pool = s.pool := rfl
@[simp] theorem State.countTrunk_store (f : TrunkCounts → TrunkCounts) : (s.countTrunk f).store = s.store := rfl
@[simp] theorem State.countTrunk_engine (f : TrunkCounts → TrunkCounts) : (s.countTrunk f).engine = s.engine := rfl
@[simp] theorem State.countTrunk_lastReset (f : TrunkCounts → TrunkCounts) : (s.countTrunk f).lastReset = s.lastReset := rfl
@[simp] theorem State.countTrunk_freeIndex (f : TrunkCounts → TrunkCounts) : (s.countTrunk f).freeIndex = s.freeIndex := rfl
@[simp] theorem State.countTrunk_agenda (f : TrunkCounts → TrunkCounts) : (s.countTrunk f).agenda = s.agenda := rfl

/-! ### State.moveTrunkIn -/

@[simp] theorem State.moveTrunkIn_pending (d : Byte) (m q : Bool) : (s.moveTrunkIn d m q).pending = s.pending := rfl
@[simp] theorem State.moveTrunkIn_inReset (d : Byte) (m q : Bool) : (s.moveTrunkIn d m q).inReset = s.inReset := rfl
@[simp] theorem State.moveTrunkIn_trunkOut (d : Byte) (m q : Bool) : (s.moveTrunkIn d m q).trunkOut = s.trunkOut := rfl
@[simp] theorem State.moveTrunkIn_toakWait (d : Byte) (m q : Bool) : (s.moveTrunkIn d m q).toakWait = s.toakWait := rfl
@[simp] theorem State.moveTrunkIn_tx (d : Byte) (m q : Bool) : (s.moveTrunkIn d m q).tx = s.tx := rfl
@[simp] theorem State.moveTrunkIn_channels (d : Byte) (m q : Bool) : (s.moveTrunkIn d m q).channels = s.channels := rfl
@[simp] theorem State.moveTrunkIn_columns (d : Byte) (m q : Bool) : (s.moveTrunkIn d m q).columns = s.columns := rfl
@[simp] theorem State.moveTrunkIn_profiles (d : Byte) (m q : Bool) : (s.moveTrunkIn d m q).profiles = s.profiles := rfl
@[simp] theorem State.moveTrunkIn_arbiter (d : Byte) (m q : Bool) : (s.moveTrunkIn d m q).arbiter = s.arbiter := rfl
@[simp] theorem State.moveTrunkIn_notices (d : Byte) (m q : Bool) : (s.moveTrunkIn d m q).notices = s.notices := rfl
@[simp] theorem State.moveTrunkIn_pool (d : Byte) (m q : Bool) : (s.moveTrunkIn d m q).pool = s.pool := rfl
@[simp] theorem State.moveTrunkIn_store (d : Byte) (m q : Bool) : (s.moveTrunkIn d m q).store = s.store := rfl
@[simp] theorem State.moveTrunkIn_engine (d : Byte) (m q : Bool) : (s.moveTrunkIn d m q).engine = s.engine := rfl
@[simp] theorem State.moveTrunkIn_lastReset (d : Byte) (m q : Bool) : (s.moveTrunkIn d m q).lastReset = s.lastReset := rfl
@[simp] theorem State.moveTrunkIn_freeIndex (d : Byte) (m q : Bool) : (s.moveTrunkIn d m q).freeIndex = s.freeIndex := rfl
@[simp] theorem State.moveTrunkIn_agenda (d : Byte) (m q : Bool) : (s.moveTrunkIn d m q).agenda = s.agenda := rfl

/-! ### State.presentBeat -/

@[simp] theorem State.presentBeat_pending (t : Transmission) : (s.presentBeat t).pending = s.pending := rfl
@[simp] theorem State.presentBeat_inReset (t : Transmission) : (s.presentBeat t).inReset = s.inReset := rfl
@[simp] theorem State.presentBeat_trunkIn (t : Transmission) : (s.presentBeat t).trunkIn = s.trunkIn := rfl
@[simp] theorem State.presentBeat_toakWait (t : Transmission) : (s.presentBeat t).toakWait = s.toakWait := rfl
@[simp] theorem State.presentBeat_rx (t : Transmission) : (s.presentBeat t).rx = s.rx := rfl
@[simp] theorem State.presentBeat_channels (t : Transmission) : (s.presentBeat t).channels = s.channels := rfl
@[simp] theorem State.presentBeat_columns (t : Transmission) : (s.presentBeat t).columns = s.columns := rfl
@[simp] theorem State.presentBeat_profiles (t : Transmission) : (s.presentBeat t).profiles = s.profiles := rfl
@[simp] theorem State.presentBeat_arbiter (t : Transmission) : (s.presentBeat t).arbiter = s.arbiter := rfl
@[simp] theorem State.presentBeat_notices (t : Transmission) : (s.presentBeat t).notices = s.notices := rfl
@[simp] theorem State.presentBeat_pool (t : Transmission) : (s.presentBeat t).pool = s.pool := rfl
@[simp] theorem State.presentBeat_store (t : Transmission) : (s.presentBeat t).store = s.store := rfl
@[simp] theorem State.presentBeat_engine (t : Transmission) : (s.presentBeat t).engine = s.engine := rfl
@[simp] theorem State.presentBeat_lastReset (t : Transmission) : (s.presentBeat t).lastReset = s.lastReset := rfl
@[simp] theorem State.presentBeat_freeIndex (t : Transmission) : (s.presentBeat t).freeIndex = s.freeIndex := rfl
@[simp] theorem State.presentBeat_agenda (t : Transmission) : (s.presentBeat t).agenda = s.agenda := rfl

/-! ### State.countEngine -/

@[simp] theorem State.countEngine_pending (f : EngineCounts → EngineCounts) : (s.countEngine f).pending = s.pending := rfl
@[simp] theorem State.countEngine_inReset (f : EngineCounts → EngineCounts) : (s.countEngine f).inReset = s.inReset := rfl
@[simp] theorem State.countEngine_trunkIn (f : EngineCounts → EngineCounts) : (s.countEngine f).trunkIn = s.trunkIn := rfl
@[simp] theorem State.countEngine_trunkOut (f : EngineCounts → EngineCounts) : (s.countEngine f).trunkOut = s.trunkOut := rfl
@[simp] theorem State.countEngine_toakWait (f : EngineCounts → EngineCounts) : (s.countEngine f).toakWait = s.toakWait := rfl
@[simp] theorem State.countEngine_rx (f : EngineCounts → EngineCounts) : (s.countEngine f).rx = s.rx := rfl
@[simp] theorem State.countEngine_tx (f : EngineCounts → EngineCounts) : (s.countEngine f).tx = s.tx := rfl
@[simp] theorem State.countEngine_channels (f : EngineCounts → EngineCounts) : (s.countEngine f).channels = s.channels := rfl
@[simp] theorem State.countEngine_columns (f : EngineCounts → EngineCounts) : (s.countEngine f).columns = s.columns := rfl
@[simp] theorem State.countEngine_profiles (f : EngineCounts → EngineCounts) : (s.countEngine f).profiles = s.profiles := rfl
@[simp] theorem State.countEngine_arbiter (f : EngineCounts → EngineCounts) : (s.countEngine f).arbiter = s.arbiter := rfl
@[simp] theorem State.countEngine_notices (f : EngineCounts → EngineCounts) : (s.countEngine f).notices = s.notices := rfl
@[simp] theorem State.countEngine_pool (f : EngineCounts → EngineCounts) : (s.countEngine f).pool = s.pool := rfl
@[simp] theorem State.countEngine_store (f : EngineCounts → EngineCounts) : (s.countEngine f).store = s.store := rfl
@[simp] theorem State.countEngine_lastReset (f : EngineCounts → EngineCounts) : (s.countEngine f).lastReset = s.lastReset := rfl
@[simp] theorem State.countEngine_freeIndex (f : EngineCounts → EngineCounts) : (s.countEngine f).freeIndex = s.freeIndex := rfl
@[simp] theorem State.countEngine_agenda (f : EngineCounts → EngineCounts) : (s.countEngine f).agenda = s.agenda := rfl

/-! ### State.mapColumns -/

@[simp] theorem State.mapColumns_pending (f : Column → Column) : (s.mapColumns f).pending = s.pending := rfl
@[simp] theorem State.mapColumns_inReset (f : Column → Column) : (s.mapColumns f).inReset = s.inReset := rfl
@[simp] theorem State.mapColumns_trunkIn (f : Column → Column) : (s.mapColumns f).trunkIn = s.trunkIn := rfl
@[simp] theorem State.mapColumns_trunkOut (f : Column → Column) : (s.mapColumns f).trunkOut = s.trunkOut := rfl
@[simp] theorem State.mapColumns_toakWait (f : Column → Column) : (s.mapColumns f).toakWait = s.toakWait := rfl
@[simp] theorem State.mapColumns_rx (f : Column → Column) : (s.mapColumns f).rx = s.rx := rfl
@[simp] theorem State.mapColumns_tx (f : Column → Column) : (s.mapColumns f).tx = s.tx := rfl
@[simp] theorem State.mapColumns_channels (f : Column → Column) : (s.mapColumns f).channels = s.channels := rfl
@[simp] theorem State.mapColumns_profiles (f : Column → Column) : (s.mapColumns f).profiles = s.profiles := rfl
@[simp] theorem State.mapColumns_arbiter (f : Column → Column) : (s.mapColumns f).arbiter = s.arbiter := rfl
@[simp] theorem State.mapColumns_notices (f : Column → Column) : (s.mapColumns f).notices = s.notices := rfl
@[simp] theorem State.mapColumns_pool (f : Column → Column) : (s.mapColumns f).pool = s.pool := rfl
@[simp] theorem State.mapColumns_store (f : Column → Column) : (s.mapColumns f).store = s.store := rfl
@[simp] theorem State.mapColumns_engine (f : Column → Column) : (s.mapColumns f).engine = s.engine := rfl
@[simp] theorem State.mapColumns_lastReset (f : Column → Column) : (s.mapColumns f).lastReset = s.lastReset := rfl
@[simp] theorem State.mapColumns_freeIndex (f : Column → Column) : (s.mapColumns f).freeIndex = s.freeIndex := rfl
@[simp] theorem State.mapColumns_agenda (f : Column → Column) : (s.mapColumns f).agenda = s.agenda := rfl

/-! ### Reading one entry after writing one -/

@[simp] theorem State.channel_setChannel (c : Chan) (x : Channel) : (s.setChannel c x).channel c = x := by
  simp [State.channel, State.setChannel]

theorem State.channel_setChannel_ne {c d : Chan} (h : d ≠ c) (x : Channel) :
    (s.setChannel c x).channel d = s.channel d := by
  have hv : c.val ≠ d.val := fun e => h (Fin.ext e.symm)
  simp [State.channel, State.setChannel, hv]

@[simp] theorem State.link_setLink (c : Chan) (l : Option Link) : (s.setLink c l).link c = l := by
  simp [State.link, State.setLink]

theorem State.link_setLink_ne {c d : Chan} (h : d ≠ c) (l : Option Link) :
    (s.setLink c l).link d = s.link d := by
  simp [State.link, State.setLink, State.channel_setChannel_ne s h]

@[simp] theorem State.link_countParcel (c d : Chan) (k : Nat) :
    (s.countParcel c k).link d = s.link d := by
  by_cases h : d = c
  · subst h; simp [State.link, State.countParcel]
  · simp [State.link, State.countParcel, State.channel_setChannel_ne s h]

@[simp] theorem State.link_countDrop (c d : Chan) : (s.countDrop c).link d = s.link d := by
  by_cases h : d = c
  · subst h; simp [State.link, State.countDrop]
  · simp [State.link, State.countDrop, State.channel_setChannel_ne s h]

@[simp] theorem State.column_setColumn (n : Spur) (x : Column) : (s.setColumn n x).column n = x := by
  simp [State.column, State.setColumn]

theorem State.column_setColumn_ne {n m : Spur} (h : m ≠ n) (x : Column) :
    (s.setColumn n x).column m = s.column m := by
  have hv : n.val ≠ m.val := fun e => h (Fin.ext e.symm)
  simp [State.column, State.setColumn, hv]

@[simp] theorem State.lane_setLane (n : Spur) (l : Lane) : (s.setLane n l).lane n = l := by
  simp [State.lane, State.setLane]

@[simp] theorem State.gather_setLane (n m : Spur) (l : Lane) :
    (s.setLane n l).gather m = s.gather m := by
  by_cases h : m = n
  · subst h; simp [State.gather, State.setLane]
  · simp [State.gather, State.setLane, State.column_setColumn_ne s h]

@[simp] theorem State.queue_setLane (n m : Spur) (l : Lane) :
    (s.setLane n l).queue m = s.queue m := by
  by_cases h : m = n
  · subst h; simp [State.queue, State.setLane]
  · simp [State.queue, State.setLane, State.column_setColumn_ne s h]

@[simp] theorem State.gather_setGather (n : Spur) (g : Gather) : (s.setGather n g).gather n = g := by
  simp [State.gather, State.setGather]

@[simp] theorem State.lane_setGather (n m : Spur) (g : Gather) :
    (s.setGather n g).lane m = s.lane m := by
  by_cases h : m = n
  · subst h; simp [State.lane, State.setGather]
  · simp [State.lane, State.setGather, State.column_setColumn_ne s h]

@[simp] theorem State.queue_setGather (n m : Spur) (g : Gather) :
    (s.setGather n g).queue m = s.queue m := by
  by_cases h : m = n
  · subst h; simp [State.queue, State.setGather]
  · simp [State.queue, State.setGather, State.column_setColumn_ne s h]

@[simp] theorem State.queue_setQueue (n : Spur) (q : List Outbound) : (s.setQueue n q).queue n = q := by
  simp [State.queue, State.setQueue]

@[simp] theorem State.lane_setQueue (n m : Spur) (q : List Outbound) :
    (s.setQueue n q).lane m = s.lane m := by
  by_cases h : m = n
  · subst h; simp [State.lane, State.setQueue]
  · simp [State.lane, State.setQueue, State.column_setColumn_ne s h]

@[simp] theorem State.gather_setQueue (n m : Spur) (q : List Outbound) :
    (s.setQueue n q).gather m = s.gather m := by
  by_cases h : m = n
  · subst h; simp [State.gather, State.setQueue]
  · simp [State.gather, State.setQueue, State.column_setColumn_ne s h]

@[simp] theorem State.segment_setSegment (h : Handle) (x : Option Segment) :
    (s.setSegment h x).segment h = x := by
  simp [State.segment, State.setSegment]

theorem State.segment_setSegment_ne {h k : Handle} (hk : k ≠ h) (x : Option Segment) :
    (s.setSegment h x).segment k = s.segment k := by
  have hv : h.val ≠ k.val := fun e => hk (Fin.ext e.symm)
  simp [State.segment, State.setSegment, hv]

@[simp] theorem State.context_setContext (i : Context) (x : Option Playback) :
    (s.setContext i x).context i = x := by
  simp [State.context, State.setContext]

theorem State.context_setContext_ne {i j : Context} (h : j ≠ i) (x : Option Playback) :
    (s.setContext i x).context j = s.context j := by
  have hv : i.val ≠ j.val := fun e => h (Fin.ext e.symm)
  simp [State.context, State.setContext, hv]

@[simp] theorem State.segment_setContext (i : Context) (x : Option Playback) (h : Handle) :
    (s.setContext i x).segment h = s.segment h := rfl

@[simp] theorem State.context_setSegment (h : Handle) (x : Option Segment) (i : Context) :
    (s.setSegment h x).context i = s.context i := rfl

end Sys2Proof.Machine
end

