-- ==== Sys2Proof/Laws/Gather.lean ====
section
/-! SUPPORT. What the Gather Unit does with a latched byte: the forms of Takes and Refuses (Safety.lean),
and that gatherByte does exactly the one or the other. -/

namespace Sys2Proof.Machine

variable {s : State} {n : Spur} {c : Chan} {k : InSettings} {d : Byte} {p : Pool}

/-! ### A byte that is taken -/

theorem Takes.first (hg : (s.gather n).state = .empty) (hd : k.drops d = false)
    (hp : s.pool.claimOrdinary 1 1 = some p) : Takes s n c k d (.filling c k.cls [d]) p := by
  simp [Takes, hg, hd, hp]

theorem Takes.firstDropped (hg : (s.gather n).state = .empty) (hd : k.drops d = true)
    (hp : s.pool.claimOrdinary 1 0 = some p) : Takes s n c k d (.filling c k.cls []) p := by
  simp [Takes, hg, hd, hp]

theorem Takes.within {c' : Chan} {cls : DataClass} {bs : List Byte}
    (hg : (s.gather n).state = .filling c' cls bs) (hd : k.drops d = false)
    (hb : bs.length % 32 ≠ 0) : Takes s n c k d (.filling c' cls (bs ++ [d])) s.pool := by
  simp [Takes, hg, hd, hb]

theorem Takes.newCell {c' : Chan} {cls : DataClass} {bs : List Byte}
    (hg : (s.gather n).state = .filling c' cls bs) (hd : k.drops d = false)
    (hb : bs.length % 32 = 0) (hp : s.pool.claimOrdinary 0 1 = some p) :
    Takes s n c k d (.filling c' cls (bs ++ [d])) p := by
  simp [Takes, hg, hd, hb, hp]

theorem Takes.lost {m : Nat} (hg : (s.gather n).state = .losing m) (hd : k.drops d = false) :
    Takes s n c k d (.losing (m + 1)) s.pool := by
  simp [Takes, hg, hd]

/-! ### A byte whose claim is refused -/

theorem Refuses.first (hg : (s.gather n).state = .empty) (hd : k.drops d = false)
    (hp : s.pool.claimOrdinary 1 1 = none) : Refuses s n k d 1 1 := by
  simp [Refuses, hg, hd, hp]

theorem Refuses.firstDropped (hg : (s.gather n).state = .empty) (hd : k.drops d = true)
    (hp : s.pool.claimOrdinary 1 0 = none) : Refuses s n k d 1 0 := by
  simp [Refuses, hg, hd, hp]

theorem Refuses.newCell {c' : Chan} {cls : DataClass} {bs : List Byte}
    (hg : (s.gather n).state = .filling c' cls bs) (hd : k.drops d = false)
    (hb : bs.length % 32 = 0) (hp : s.pool.claimOrdinary 0 1 = none) : Refuses s n k d 0 1 := by
  simp [Refuses, hg, hd, hb, hp]

/-! ### What the unit does -/

theorem State.setGatherState_same {g : GatherState} (h : (s.gather n).state = g) :
    s.setGatherState n g = s := by
  subst h
  show { s with columns := s.columns.set n.val s.columns[n.val] } = s
  rw [Vector.set_getElem_self]

/-- A byte that is taken is taken as Takes says, and the beat's end will test the gather. -/
theorem gatherByte_takes {g : GatherState} (h : Takes s n c k d g p) :
    gatherByte n c k d s =
      { state := { s with pool := p }.setGatherState n g, tests := true, waits := false } := by
  unfold Takes at h
  unfold gatherByte
  cases hg : (s.gather n).state with
  | empty =>
    rw [hg] at h
    by_cases hd : k.drops d = true <;> simp [hd] at h ⊢ <;> simp [h.1, h.2]
  | filling c' cls bs =>
    rw [hg] at h
    by_cases hd : k.drops d = true
    · simp only [hd, if_true] at h ⊢
      rw [h.1, h.2, State.setGatherState_same hg]
    · by_cases hb : bs.length % 32 = 0 <;>
        simp only [hd, hb, if_true, if_false, Config.cellBytes] at h ⊢ <;> simp [h.1, h.2]
  | losing m =>
    rw [hg] at h
    by_cases hd : k.drops d = true <;> simp only [hd, if_true] at h ⊢
    · rw [h.1, h.2, State.setGatherState_same hg]
    · simp [h.1, h.2]

/-- A byte whose claim is refused waits for the pool, or makes the gather LOSING. -/
theorem gatherByte_refuses {dd kk : Nat} (h : Refuses s n k d dd kk) :
    gatherByte n c k d s = refusedByte n { byte := d, term := k.drops d } dd kk
      ((s.gather n).count + if k.drops d then 0 else 1) s := by
  obtain ⟨hp, hr⟩ := h
  unfold gatherByte
  cases hg : (s.gather n).state with
  | empty =>
    rw [hg] at hr
    obtain ⟨rfl, rfl⟩ := hr
    by_cases hd : k.drops d = true <;> simp_all [Gather.count]
  | filling c' cls bs =>
    rw [hg] at hr
    obtain ⟨hd, hb, rfl, rfl⟩ := hr
    simp [hd, hb, hp, Gather.count, hg, Config.cellBytes]
  | losing m => rw [hg] at hr; exact hr.elim

end Sys2Proof.Machine
end

