-- ==== Sys2Proof/Laws/Run.lean ====
section
/-! SUPPORT. How an act goes on: one rule of the agenda at a time, and which rules do nothing in which
states. -/

namespace Sys2Proof.Machine

theorem run_settled {s : State} (h : s.agenda = []) (n : Nat) : run n s = s := by
  cases n with
  | zero => rfl
  | succ n => simp [run, h]

theorem run_cons {s : State} {j : Job} {rest : List Job} (h : s.agenda = j :: rest)
    (hj : j.isLater = false) (n : Nat) :
    run (n + 1) s = run n (doJob j { s with agenda := rest }) := by
  simp [run, h, hj]

theorem run_later {s : State} {j : Job} {rest : List Job} (h : s.agenda = j :: rest)
    (hj : j.isLater = true) (n : Nat) : run n s = s := by
  cases n with
  | zero => rfl
  | succ n => simp [run, h, hj]

theorem goOn_settled {s : State} (h : s.agenda = []) (n : Nat) : goOn n s = s := by
  cases n with
  | zero => rfl
  | succ n => simp [goOn, h]

/-- An act that comes to its end without a rule put behind it. -/
theorem State.carryOut_run {s t : State} (h : run Config.actBound s = t) (ht : t.agenda = []) :
    s.carryOut = t := by
  rw [State.carryOut, h, goOn_settled ht]

theorem State.act_live {s : State} (h : s.inReset = false) (f : State → State) :
    s.act f = .next (f (s.push [.arbiter])).carryOut := by
  simp [State.act, h]

theorem State.act_inReset {s : State} (h : s.inReset = true) (f : State → State) :
    s.act f = .next s := by
  simp [State.act, h]

theorem arbitrate_busy {s : State} (h : s.tx.isSome = true) : arbitrate s = s := by
  unfold arbitrate
  cases hx : s.tx with
  | none => simp [hx] at h
  | some t => rfl

theorem serve_alone {s : State} (h : s.pool.waiting = []) : serve s = s := by
  simp [serve, h]

theorem engineTurn_idle {s : State} (h : s.engine.requests = []) : engineTurn s = s := by
  simp [engineTurn, h]

theorem decideLane_busy {s : State} {n : Spur} (ho : (s.lane n).state ≠ .idleOut)
    (hi : (s.lane n).state ≠ .idleIn) : decideLane n s = s := by
  unfold decideLane
  cases h : (s.lane n).state <;> simp_all

theorem takeBeats_elsewhere {s : State} {n : Spur} (h : (s.lane n).state ≠ .idleIn) :
    takeBeats n s = s := by
  simp [takeBeats, h]

/-- What remains of an act is the arbiter's decision, and trunk-out is busy. -/
theorem run_arbiter_busy {s : State} (h : s.agenda = [.arbiter]) (hb : s.tx.isSome = true) (n : Nat) :
    run (n + 1) s = { s with agenda := [] } := by
  rw [run_cons h rfl]
  simp only [doJob]
  rw [arbitrate_busy (by exact hb)]
  exact run_settled rfl n

/-- An act whose first effects leave no rule to take but the arbiter's, with trunk-out busy. -/
theorem State.act_quiet {s : State} (hs : Settled s) (f : State → State)
    (ha : (f (s.push [.arbiter])).agenda = [.arbiter])
    (hb : (f (s.push [.arbiter])).tx.isSome = true) :
    s.act f = .next { f (s.push [.arbiter]) with agenda := [] } := by
  rw [State.act_live hs.live]
  congr 1
  exact State.carryOut_run (run_arbiter_busy ha hb 4294967295) rfl

end Sys2Proof.Machine
end

