-- ==== Sys2Proof/Laws/Pool.lean ====
section
/-! SUPPORT. What the Cell Pool's operations can do (07_cell_pool_and_descriptors.md). -/

namespace Sys2Proof.Machine

/-- A granted management claim takes what it asked for, and no claim the free counts allow is refused
(R138). -/
theorem Pool.claimManagement_eq (p : Pool) (d k : Nat) :
    p.claimManagement d k =
      if d ≤ p.freeDescriptors ∧ k ≤ p.freeCells then
        some { p with freeCells := p.freeCells - k, freeDescriptors := p.freeDescriptors - d
                      mgmtCells := p.mgmtCells + k, mgmtDescriptors := p.mgmtDescriptors + d }
      else none := rfl

/-- A granted ordinary claim: nothing was asked for and nothing changed, or nobody waited, the unused
reserve is left over, and the claim was taken from the free counts (R137, R139). -/
theorem Pool.claimOrdinary_some {p q : Pool} {d k : Nat} (h : p.claimOrdinary d k = some q) :
    (d = 0 ∧ k = 0 ∧ q = p) ∨
    (p.waiting = [] ∧ p.ordinaryFits d k = true ∧ q = p.take d k) := by
  unfold Pool.claimOrdinary at h
  split at h
  · rename_i h0; exact .inl ⟨h0.1, h0.2, by simpa using h.symm⟩
  · split at h
    · rename_i h1; exact .inr ⟨h1.1, h1.2, by simpa using h.symm⟩
    · cases h

/-- An ordinary claim leaves the management holding, the cells held by segments and the list alone. -/
theorem Pool.claimOrdinary_frame {p q : Pool} {d k : Nat} (h : p.claimOrdinary d k = some q) :
    q.mgmtCells = p.mgmtCells ∧ q.mgmtDescriptors = p.mgmtDescriptors ∧
    q.segmentCells = p.segmentCells ∧ q.waiting = p.waiting := by
  rcases Pool.claimOrdinary_some h with ⟨_, _, rfl⟩ | ⟨_, _, rfl⟩ <;> simp [Pool.take]

theorem Pool.claimManagement_frame {p q : Pool} {d k : Nat} (h : p.claimManagement d k = some q) :
    q.segmentCells = p.segmentCells ∧ q.waiting = p.waiting := by
  rw [Pool.claimManagement_eq] at h
  split at h
  · simp at h; subst h; simp
  · cases h

@[simp] theorem Pool.put_segmentCells (p : Pool) (m : Bool) (d k : Nat) :
    (p.put m d k).segmentCells = p.segmentCells := by cases m <;> rfl

@[simp] theorem Pool.put_waiting (p : Pool) (m : Bool) (d k : Nat) :
    (p.put m d k).waiting = p.waiting := by cases m <;> rfl

@[simp] theorem Pool.put_freeCells (p : Pool) (m : Bool) (d k : Nat) :
    (p.put m d k).freeCells = p.freeCells + k := by cases m <;> rfl

@[simp] theorem Pool.put_freeDescriptors (p : Pool) (m : Bool) (d k : Nat) :
    (p.put m d k).freeDescriptors = p.freeDescriptors + d := by cases m <;> rfl

@[simp] theorem Pool.holding_waiting (p : Pool) (n : Nat) : (p.holding n).waiting = p.waiting := rfl

@[simp] theorem Pool.holding_segmentCells (p : Pool) (n : Nat) :
    (p.holding n).segmentCells = p.segmentCells := rfl

/-- The claim of a parcel with management standing, where the pool has its storage (R138). -/
theorem Pool.claimManagement_holding {p : Pool} {n : Nat} (hd : 1 ≤ p.freeDescriptors)
    (hk : cellsFor n ≤ p.freeCells) : p.claimManagement 1 (cellsFor n) = some (p.holding n) := by
  rw [Pool.claimManagement_eq, if_pos ⟨hd, hk⟩]; rfl

end Sys2Proof.Machine
end

