-- ==== Sys2Proof/Laws/Moves.lean ====
section
/-! SUPPORT. Everything a command can do to the collections that the laws of the spec speak of: the
notice FIFO, the credit table and the hold-off timer, the trunk-out queues, the channels' links, the
segments, and the request queue. `Moves s t` says that t comes from s by such changes, each under the
condition that the spec's rule puts on it. Each invariant is then one induction over Moves. -/

namespace Sys2Proof.Machine

/-- The part of the state that the laws speak of, with the command queue, which no command touches. -/
def State.law (s : State) :
    Notices × Arbiter × List Request × Store × Nat × (Chan → Option Link) × List Instr :=
  (s.notices, s.arbiter, s.engine.requests, s.store, s.pool.segmentCells, s.link, s.pending)

/-- t comes from s by the changes that the rules make to the part of the state the laws speak of. -/
inductive Moves : State → State → Prop
  | trans {s t u : State} : Moves s t → Moves t u → Moves s u
  /-- A change elsewhere. -/
  | other {s t : State} (h : t.law = s.law) : Moves s t
  /-- Requests leave the request queue (R172). -/
  | leave (s : State) (e : Engine) (h : e.requests.length ≤ s.engine.requests.length) :
      Moves s { s with engine := e }
  /-- A request joins it (R173). -/
  | join (s : State) (r : Request) (h : s.engine.requests.length < Config.requestDepth) :
      Moves s { s with engine := { s.engine with requests := s.engine.requests ++ [r] } }
  /-- A record arrives (R123). -/
  | arrive (s : State) (r : Record) : Moves s { s with notices := s.notices.arrive r }
  /-- The hold-off timer expires (R126). -/
  | expire (s : State) (p : Byte) (h : s.notices.timer = .running p) :
      Moves s { s with notices := { s.notices with timer := .expired } }
  /-- The hold-off is set (R17). -/
  | holdOff (s : State) (b : Byte) :
      Moves s { s with notices := { s.notices with holdOff := b } }
  /-- A notice is assembled (R129). -/
  | assemble (s : State) : Moves s { s with notices := s.notices.assembled }
  /-- A link changes, but not its direction, limit or outstanding count (R21). -/
  | relink (s : State) (c : Chan) (l l' : Link) (h : s.link c = some l) (hd : l'.dir = l.dir) :
      Moves s (s.setLink c (some l'))
  /-- A parcel is accepted within its channel's credit (R45, R46). -/
  | accept (s : State) (c : Chan) (l : Link) (limit k : Nat) (h : s.link c = some l)
      (hd : l.dir = .outbound limit k) (hk : k + s.credit c < limit) :
      Moves s (s.setLink c (some { l with dir := .outbound limit (k + 1) }))
  /-- A credited drop report (R49). -/
  | refund (s : State) (c : Chan) (l : Link) (limit k : Nat) (h : s.link c = some l)
      (hd : l.dir = .outbound limit k) (hk : k + s.credit c < limit) :
      Moves s { s with notices := s.notices.addCredit c }
  /-- A host parcel is counted off and its credit released (R59, R63). -/
  | release (s : State) (c : Chan) (l : Link) (limit k : Nat) (h : s.link c = some l)
      (hd : l.dir = .outbound limit (k + 1)) :
      Moves s { s.setLink c (some { l with dir := .outbound limit k }) with
        notices := s.notices.addCredit c }
  /-- A host parcel is counted off without a credit (R33, R35). -/
  | discard (s : State) (c : Chan) (l : Link) (limit k : Nat) (h : s.link c = some l)
      (hd : l.dir = .outbound limit (k + 1)) :
      Moves s (s.setLink c (some { l with dir := .outbound limit k }))
  /-- A CLOSED channel opens (R27). -/
  | opens (s : State) (c : Chan) (l : Link) (h : s.link c = none)
      (hd : ∀ limit k, l.dir = .outbound limit k → k = 0 ∧ limit ≤ 15) :
      Moves s (s.setLink c (some l))
  /-- A drain completes (R39). -/
  | shut (s : State) (c : Chan) :
      Moves s ({ s with notices := s.notices.clearCredit c }.setLink c none)
  /-- A gathered parcel joins a data queue that has room (R111). -/
  | gathered (s : State) (cls : DataClass) (x : Inbound)
      (h : s.arbiter.express.length + s.arbiter.normal.length < Config.dataQueueDepth) :
      Moves s { s with arbiter := s.arbiter.join cls x }
  /-- A grant, or a response that joins or leaves (R116, R120, R121). -/
  | granted (s : State) (a : Arbiter)
      (hd : a.express.length + a.normal.length ≤ s.arbiter.express.length + s.arbiter.normal.length)
      (hr : s.arbiter.run ≤ Config.expressRun → a.run ≤ Config.expressRun) :
      Moves s { s with arbiter := a }
  /-- An entry is appended within the bounds (R149). -/
  | append (s : State) (h : Handle) (g : Segment) (body : List Byte) (p : Pool)
      (hg : s.segment h = some g) (he : g.entries.length < Config.segmentEntries)
      (hc : g.cellsHeld + cellsFor body.length ≤ g.cellLimit)
      (hq : s.pool.segmentCells + cellsFor body.length ≤ s.store.quota)
      (hp : p.segmentCells = s.pool.segmentCells + cellsFor body.length) :
      Moves s ({ s with pool := p }.setSegment h (some { g with entries := g.entries ++ [body] }))
  /-- A segment's state changes (R150). -/
  | segState (s : State) (h : Handle) (g : Segment) (st : SegState) (hg : s.segment h = some g) :
      Moves s (s.setSegment h (some { g with state := st }))
  /-- An empty segment is created at a free handle (R151). -/
  | create (s : State) (h : Handle) (label : List Byte) (limit : Nat) (hg : s.segment h = none) :
      Moves s (s.setSegment h (some { label := label, state := .ready, cellLimit := limit, entries := [] }))
  /-- A segment is deleted and its cells leave the total (R154). -/
  | delete (s : State) (h : Handle) (g : Segment) (p : Pool) (hg : s.segment h = some g)
      (hp : p.segmentCells = s.pool.segmentCells - g.cellsHeld) :
      Moves s { s.setSegment h none with pool := p }
  /-- The contexts change (R159). -/
  | contexts (s : State) (v : Vector (Option Playback) 4) :
      Moves s { s with store := { s.store with contexts := v } }
  /-- The quota is set to no less than what the segments hold (R156). -/
  | quota (s : State) (q : Nat) (h : s.pool.segmentCells ≤ q) (hm : q ≤ Config.maxSegmentCells) :
      Moves s { s with store := { s.store with quota := q } }
  /-- A restart takes effect (R190). -/
  | restart (s : State) : Moves s (Machine.restart s)
  /-- RESET_N is asserted (R192). -/
  | lineReset (s : State) : Moves s (Machine.lineReset s)
  /-- RESET_N is released (R193). -/
  | lineRelease (s : State) : Moves s (Machine.lineRelease s)

namespace Moves

theorem refl (s : State) : Moves s s := .other rfl

theorem thenOther {s t u : State} (h : Moves s t) (e : u.law = t.law) : Moves s u :=
  h.trans (.other e)

theorem afterOther {s t u : State} (h : Moves t u) (e : t.law = s.law) : Moves s u :=
  (Moves.other e).trans h

end Moves

/-! ### Changes elsewhere -/

@[simp] theorem State.giveBack_law (s : State) (m : Bool) (d k : Nat) :
    (s.giveBack m d k).law = s.law := by
  simp only [State.law, State.giveBack_pool, Pool.put_segmentCells]; rfl

@[simp] theorem State.push_law (s : State) (js : List Job) : (s.push js).law = s.law := rfl

@[simp] theorem State.countParcel_law (s : State) (c : Chan) (n : Nat) :
    (s.countParcel c n).law = s.law := by
  have : (s.countParcel c n).link = s.link := by funext d; simp
  simp [State.law, this]

@[simp] theorem State.countDrop_law (s : State) (c : Chan) : (s.countDrop c).law = s.law := by
  have : (s.countDrop c).link = s.link := by funext d; simp
  simp [State.law, this]

@[simp] theorem State.leaveWaiting_law (s : State) (w : Claimant) :
    (s.leaveWaiting w).law = s.law := by
  unfold State.leaveWaiting; dsimp only; split <;> rfl

@[simp] theorem State.freeReception_law (s : State) (p : Reception) :
    (s.freeReception p).law = s.law := by
  unfold State.freeReception; split <;> simp

theorem State.pool_law {s : State} {p : Pool} (h : p.segmentCells = s.pool.segmentCells) :
    ({ s with pool := p } : State).law = s.law := by
  show (_, _, _, _, p.segmentCells, _) = _
  rw [h]; rfl

/-! ### Operations -/

theorem State.record_moves (s : State) (r : Record) : Moves s (s.record r) := by
  unfold State.record
  split
  · exact .other rfl
  · exact .arrive s r

theorem arriveAll_moves (l : List Record) (s : State) :
    Moves s { s with notices := l.foldl Notices.arrive s.notices } := by
  induction l generalizing s with
  | nil => exact .refl s
  | cons r l ih => exact (Moves.arrive s r).trans (ih { s with notices := s.notices.arrive r })

theorem State.handRecords_moves (s : State) : Moves s s.handRecords :=
  (arriveAll_moves (s.engine.records.getD []) s).thenOther rfl

theorem State.setPhase_moves (s : State) (c : Chan) (ph : Phase) : Moves s (s.setPhase c ph) := by
  unfold State.setPhase
  split
  · rename_i l h; exact .relink s c l _ h rfl
  · exact .refl s

theorem State.setTee_moves (s : State) (c : Chan) (h : Option Handle) : Moves s (s.setTee c h) := by
  unfold State.setTee
  split
  · exact .refl s
  · rename_i l hl; exact .relink s c l _ hl rfl

theorem State.countDrain_moves (s : State) (c : Chan) (a b : Nat) :
    Moves s (s.countDrain c a b) := by
  unfold State.countDrain
  split
  · rename_i l h
    split
    · exact .relink s c l _ h rfl
    · exact .refl s
  · exact .refl s

theorem State.countOff_moves (s : State) (c : Chan) (b : Bool) : Moves s (s.countOff c b) := by
  unfold State.countOff
  split
  · rename_i l h
    split
    · rename_i limit k hd
      cases b
      · exact .discard s c l limit k h hd
      · exact .release s c l limit k h hd
    · exact .refl s
  · exact .refl s

theorem State.setSegState_moves (s : State) (h : Handle) (st : SegState) :
    Moves s (s.setSegState h st) := by
  unfold State.setSegState
  split
  · exact .refl s
  · rename_i g hg; exact .segState s h g st hg

theorem State.setContext_moves (s : State) (i : Context) (x : Option Playback) :
    Moves s (s.setContext i x) := .contexts s _

/-! ### The trunk -/

theorem State.claimRx_segmentCells {s : State} {tag : Byte} {d k : Nat} {p : Pool}
    (h : s.claimRx tag d k = some p) : p.segmentCells = s.pool.segmentCells := by
  unfold State.claimRx at h
  split at h
  · exact (Pool.claimManagement_frame h).1
  · split at h
    · exact (Pool.claimOrdinary_frame h).2.2.1
    · cases h

theorem takeTag_moves (d : Byte) (s : State) : Moves s (takeTag d s) := by
  unfold takeTag
  split
  · rename_i p h
    exact (Moves.other rfl).afterOther (State.pool_law (State.claimRx_segmentCells h))
  · exact .other rfl

theorem lengthBeat_moves (p : Reception) (d : Byte) (s : State) : Moves s (lengthBeat p d s) := by
  unfold lengthBeat
  dsimp only
  split
  · exact .other (by simp only [State.freeReception_law, State.push_law]; rfl)
  · split <;> exact .other rfl

theorem bodyBeat_moves (p : Reception) (d : Byte) (s : State) : Moves s (bodyBeat p d s) := by
  unfold bodyBeat
  dsimp only
  split
  · exact .other rfl
  · split
    · split
      · rename_i h
        exact (Moves.other rfl).afterOther (State.pool_law (State.claimRx_segmentCells h))
      · exact .other (by rw [State.freeReception_law]; rfl)
    · exact .other rfl

theorem lostRequest_moves (l : List Byte) (s : State) : Moves s (lostRequest l s) := by
  unfold lostRequest
  split
  · exact (State.record_moves s _).thenOther rfl
  · exact .other rfl

theorem handOff_moves (p : Reception) (s : State) : Moves s (handOff p s) := by
  unfold handOff
  split
  · split
    · exact lostRequest_moves _ s
    · split <;> exact .other rfl
  · split <;> exact .other rfl

theorem checkBeat_moves (p : Reception) (d : Byte) (s : State) : Moves s (checkBeat p d s) := by
  unfold checkBeat
  dsimp only
  split
  · exact (handOff_moves _ _).afterOther rfl
  · exact .other (by rw [State.freeReception_law]; rfl)

theorem framingFault_moves (p : Reception) (d : Byte) (s : State) :
    Moves s (framingFault p d s) :=
  .other (by unfold framingFault; rw [State.freeReception_law]; rfl)

theorem rxBeat_moves (m : Bool) (d : Byte) (s : State) : Moves s (rxBeat m d s) := by
  unfold rxBeat
  split
  · exact .other rfl
  · exact .refl s
  · exact takeTag_moves d s
  · exact takeTag_moves d s
  · exact lengthBeat_moves _ d s
  · exact bodyBeat_moves _ d s
  · exact checkBeat_moves _ d s
  · exact framingFault_moves _ d s
  · exact framingFault_moves _ d s
  · exact framingFault_moves _ d s

theorem gapExpiry_moves (s : State) : Moves s (gapExpiry s) := by
  unfold gapExpiry
  split
  · exact .other (by rw [State.freeReception_law]; rfl)
  · exact .refl s

theorem declareBreak_moves (s : State) : Moves s (declareBreak s) := by
  unfold declareBreak
  split
  · dsimp only
    split
    · exact .other (by rw [State.freeReception_law]; rfl)
    · exact .other rfl
  · exact .refl s

theorem breakTold_moves (s : State) : Moves s (breakTold s) := by
  unfold breakTold
  dsimp only
  refine (State.record_moves s .brk).trans (Moves.thenOther (Moves.leave _ _ ?_) (State.giveBack_law _ _ _ _))
  dsimp only
  split
  · simp
  · simp only [List.length_map, List.length_take]; omega

theorem State.presentBeat_moves (s : State) (t : Transmission) : Moves s (s.presentBeat t) := .other rfl

theorem State.startParcelOut_moves (s : State) (p : Parcel) (b : Bool) :
    Moves s (s.startParcelOut p b) := by
  unfold State.startParcelOut
  dsimp only
  split <;> exact .other rfl

theorem ackAsserted_moves (s : State) : Moves s (ackAsserted s) := by
  unfold ackAsserted
  split
  · exact .refl s
  · dsimp only
    split
    · split <;> exact .other rfl
    · exact .other rfl

theorem parcelSent_moves (t : Transmission) (s : State) : Moves s (parcelSent t s) := by
  unfold parcelSent
  dsimp only
  split <;> exact .other (by rw [State.giveBack_law]; rfl)

theorem ackDeasserted_moves (s : State) : Moves s (ackDeasserted s) := by
  unfold ackDeasserted
  split
  · dsimp only
    split
    · split
      · exact .other rfl
      · split
        · exact .other rfl
        · exact (parcelSent_moves _ _).afterOther rfl
      · exact .other rfl
    · exact .other rfl
  · exact .refl s

/-! ### The Segment Store -/

theorem append_moves {h : Handle} {body : List Byte} {s t : State} (e : append h body s = some t) :
    Moves s t := by
  unfold append at e
  split at e
  · cases e
  · rename_i g hg
    dsimp only at e
    split at e
    · rename_i hb
      split at e
      · cases e
      · rename_i p hp
        simp only [Option.some.injEq] at e
        subst e
        refine .append s h g body _ hg hb.1 hb.2.1 hb.2.2 ?_
        simp only
        rw [(Pool.claimOrdinary_frame hp).2.2.1]
    · cases e

theorem captureFull_moves (c : Chan) (h : Handle) (s : State) : Moves s (captureFull c h s) := by
  unfold captureFull
  dsimp only
  exact ((State.setTee_moves s c none).trans (State.setSegState_moves _ h _)).trans
    (State.record_moves _ _)

theorem capture_moves (c : Chan) (b : List Byte) (s : State) : Moves s (capture c b s) := by
  unfold capture
  split
  · exact .refl s
  · split
    · exact .refl s
    · split
      · rename_i e; exact append_moves e
      · exact captureFull_moves _ _ s

theorem dropTee_moves (c : Chan) (s : State) : Moves s (dropTee c s) := by
  unfold dropTee
  split
  · exact .refl s
  · split
    · exact .refl s
    · exact (State.setTee_moves s c none).trans (State.setSegState_moves _ _ _)

theorem emit_moves (i : Context) (s : State) : Moves s (emit i s) := by
  unfold emit
  split
  · exact .refl s
  · split
    · dsimp only
      exact ((State.setContext_moves _ i _).thenOther (State.push_law _ _)).afterOther rfl
    · exact .refl s

theorem testContext_moves (i : Context) (s : State) : Moves s (testContext i s) := by
  unfold testContext
  split
  · exact .refl s
  · split
    · split
      · exact .refl s
      · split
        · rename_i h
          exact (emit_moves i _).afterOther (State.pool_law (Pool.claimOrdinary_frame h).2.2.1)
        · exact (State.setContext_moves s i _).thenOther rfl
    · exact .refl s

theorem endDone_moves (i : Context) (p : Playback) (s : State) : Moves s (endDone i p s) :=
  ((State.record_moves s _).trans (State.setSegState_moves _ _ _)).trans (State.setContext_moves _ _ _)

theorem tellContext_moves (i : Context) (s : State) : Moves s (tellContext i s) := by
  unfold tellContext
  split
  · exact .refl s
  · dsimp only
    split
    · exact (State.setContext_moves s i _).thenOther rfl
    · split
      · exact (State.setContext_moves s i _).trans (endDone_moves _ _ _)
      · exact State.setContext_moves s i _
    · exact State.setContext_moves s i _
    · exact State.setContext_moves s i _

theorem pauseContext_moves (c : Chan) (s : State) : Moves s (pauseContext c s) := by
  unfold pauseContext
  split
  · exact .refl s
  · split
    · exact .refl s
    · split
      · exact State.setContext_moves s _ _
      · exact (State.setContext_moves s _ _).thenOther (State.leaveWaiting_law _ _)
      · exact .refl s
      · exact .refl s

theorem resumeContext_moves (c : Chan) (s : State) : Moves s (resumeContext c s) := by
  unfold resumeContext
  split
  · exact .refl s
  · split
    · exact .refl s
    · split
      · exact (State.setContext_moves s _ _).thenOther rfl
      · exact .refl s
      · exact .refl s
      · exact .refl s

theorem State.orphan_law (s : State) (n : Spur) (i : Context) : (s.orphan n i).law = s.law := by
  unfold State.orphan
  dsimp only
  split <;> rfl

theorem freeContext_moves (i : Context) (r : PlayReason) (s : State) :
    Moves s (freeContext i r s) := by
  unfold freeContext
  split
  · exact .refl s
  · exact (((State.setSegState_moves _ _ _).trans (State.setContext_moves _ _ _)).trans
      (State.record_moves _ _)).afterOther (State.orphan_law s _ i)

theorem State.endPlayback_law (s : State) (i : Context) (steps : List Job) :
    (s.endPlayback i steps).law = s.law := by
  unfold State.endPlayback
  rw [State.leaveWaiting_law, State.push_law]

theorem endContext_law (c : Chan) (s : State) : (endContext c s).law = s.law := by
  unfold endContext
  split
  · rfl
  · exact State.endPlayback_law _ _ _

theorem removePlayback_law (i : Context) (s : State) : (removePlayback i s).law = s.law := by
  unfold removePlayback
  split
  · rfl
  · dsimp only
    rw [State.giveBack_law]; rfl

theorem spacingElapsed_moves (i : Context) (s : State) : Moves s (spacingElapsed i s) := by
  unfold spacingElapsed
  split
  · exact .refl s
  · split
    · exact (State.setContext_moves s _ _).thenOther rfl
    · exact .refl s

end Sys2Proof.Machine
end

