-- ==== Sys2Proof/Laws/Notices.lean ====
section
/-! SUPPORT. What the Notice Builder's operations can do (06_the_return_path_and_notices.md). -/

namespace Sys2Proof.Machine

/-- An arriving record joins a FIFO below 48 (R123). -/
theorem Notices.arrive_room {nb : Notices} (h : nb.fifo.length < Config.fifoDepth) (r : Record) :
    nb.arrive r = { nb with fifo := nb.fifo ++ [r] } := by
  unfold Notices.arrive
  rw [if_pos h]

/-- An arriving record is counted in LOST at a full FIFO (R123). -/
theorem Notices.arrive_full {nb : Notices} (h : ¬ nb.fifo.length < Config.fifoDepth) (r : Record) :
    nb.arrive r = { nb with lost := satInc nb.lost } := by
  unfold Notices.arrive
  rw [if_neg h]

@[simp] theorem Notices.arrive_credits (nb : Notices) (r : Record) :
    (nb.arrive r).credits = nb.credits := by unfold Notices.arrive; split <;> rfl

@[simp] theorem Notices.arrive_timer (nb : Notices) (r : Record) :
    (nb.arrive r).timer = nb.timer := by unfold Notices.arrive; split <;> rfl

/-- The table is all 0 when every channel's count is. -/
theorem Notices.noCredit_iff (nb : Notices) :
    nb.noCredit = true ↔ ∀ c : Chan, nb.credits[c.val] = 0 := by
  simp only [Notices.noCredit, List.all_eq_true, decide_eq_true_eq]
  constructor
  · intro h c
    exact h _ (by simp [Vector.getElem_mem])
  · intro h k hk
    obtain ⟨i, hi, rfl⟩ := List.mem_iff_getElem.1 hk
    have := h ⟨i, by simpa using hi⟩
    simpa using this

/-- The timer that starts is never STOPPED (R126). -/
theorem HoldOff.start_ne (b : Byte) : HoldOff.start b ≠ .stopped := by
  unfold HoldOff.start; split <;> simp

/-- A record is handed on at once outside an execution (R123). -/
theorem State.record_now {s : State} (h : s.engine.records = none) (r : Record) :
    s.record r = { s with notices := s.notices.arrive r } := by
  unfold State.record
  rw [h]

/-- An execution holds its records back until its response has joined the queue (R176). -/
theorem State.record_later {s : State} {l : List Record} (h : s.engine.records = some l)
    (r : Record) :
    s.record r = { s with engine := { s.engine with records := some (l ++ [r]) } } := by
  unfold State.record
  rw [h]

end Sys2Proof.Machine
end

