-- ==== Sys2Proof/Laws/MovesLanes.lean ====
section
/-! SUPPORT. What the lanes, the Gather Units and the Channel Map's outbound part can do to the
collections of the laws (see Moves). -/

namespace Sys2Proof.Machine

@[simp] theorem syncYield_law (n : Spur) (s : State) : (syncYield n s).law = s.law := by
  unfold syncYield; dsimp only; split
  · split <;> rfl
  · rfl

@[simp] theorem work_law (n : Spur) (s : State) : (work n s).law = s.law := by
  unfold work; dsimp only; split
  · exact syncYield_law n s
  · exact (show _ = (syncYield n s).law from rfl).trans (syncYield_law n s)

@[simp] theorem enterIdle_law (n : Spur) (st : LaneState) (s : State) :
    (enterIdle n st s).law = s.law := rfl

@[simp] theorem stopTaking_law (n : Spur) (s : State) : (stopTaking n s).law = s.law := rfl

@[simp] theorem turnIn_law (n : Spur) (s : State) : (turnIn n s).law = s.law := by
  unfold turnIn; dsimp only; rw [syncYield_law]; rfl

@[simp] theorem turnOut_law (n : Spur) (s : State) : (turnOut n s).law = s.law := by
  unfold turnOut; dsimp only; rw [syncYield_law]; rfl

/-! ### Outbound -/

theorem State.later_law (s : State) (j : Job) : (s.later j).law = s.law := rfl

theorem completeParcel_moves (n : Spur) (e : Outbound) (s : State) :
    Moves s (completeParcel n e s) := by
  unfold completeParcel
  have h1 : (s.setLane n { s.lane n with sending := none }).law = s.law := rfl
  generalize s.setLane n { s.lane n with sending := none } = s1 at h1
  refine Moves.afterOther ?_ h1
  dsimp only
  have h2 : Moves s1 (if e.origin = .host then s1.countOff e.chan true else s1) := by
    split
    · exact State.countOff_moves s1 e.chan true
    · exact .refl s1
  refine h2.trans ?_
  generalize (if e.origin = .host then s1.countOff e.chan true else s1) = s2
  have h3 := (State.countDrain_moves (s2.countParcel e.chan e.body.length) e.chan 1
    0).afterOther (State.countParcel_law _ _ _)
  refine h3.trans ?_
  generalize (s2.countParcel e.chan e.body.length).countDrain e.chan 1 0 = s3
  refine .other ?_
  rw [State.giveBack_law, State.push_law]
  split
  · exact State.later_law _ _
  · exact State.push_law _ _

theorem countOffs_moves (c : Chan) (l : List Unit) (s : State) :
    Moves s (l.foldl (fun t _ => t.countOff c false) s) := by
  induction l generalizing s with
  | nil => exact .refl s
  | cons _ l ih => exact (State.countOff_moves s c false).trans (ih _)

theorem discardQueued_moves (c : Chan) (s : State) : Moves s (discardQueued c s) := by
  unfold discardQueued
  split
  · exact .refl s
  · dsimp only
    refine Moves.thenOther ?_ (State.giveBack_law _ _ _ _)
    refine Moves.thenOther ?_ (State.push_law _ _)
    refine Moves.trans ?_ (State.countDrain_moves _ _ _ _)
    exact (countOffs_moves c _ _).afterOther rfl

theorem outboundStallChannel_moves (e : Outbound) (s : State) :
    Moves s (outboundStallChannel e s) := by
  unfold outboundStallChannel
  dsimp only
  split
  · exact .refl s
  · split
    · refine Moves.thenOther ?_ (State.push_law _ _)
      refine Moves.trans ?_ (State.countDrain_moves _ _ _ _)
      split
      · exact (State.setPhase_moves _ _ _).trans (State.countOff_moves _ _ _)
      · exact State.setPhase_moves _ _ _
    all_goals
      refine Moves.thenOther ?_ (State.push_law _ _)
      split
      · exact (State.setPhase_moves _ _ _).trans (State.countOff_moves _ _ _)
      · exact State.setPhase_moves _ _ _

theorem outboundStall_moves (n : Spur) (x : Sending) (s : State) :
    Moves s (outboundStall n x s) := by
  unfold outboundStall
  dsimp only
  refine Moves.thenOther ?_ (State.giveBack_law _ _ _ _)
  refine Moves.trans ?_ (outboundStallChannel_moves _ _)
  exact ((State.record_moves _ _).thenOther (State.push_law _ _)).afterOther rfl

@[simp] theorem strobeAction_law (n : Spur) (x : Sending) (s : State) :
    (strobeAction n x s).law = s.law := by
  unfold strobeAction; dsimp only; split
  · split <;> rfl
  all_goals rfl

@[simp] theorem presentByte_law (n : Spur) (x : Sending) (s : State) :
    (presentByte n x s).law = s.law := by
  unfold presentByte; dsimp only; split
  · rw [strobeAction_law]; rfl
  · rfl

@[simp] theorem beginBeat_law (n : Spur) (x : Sending) (s : State) :
    (beginBeat n x s).law = s.law := by
  unfold beginBeat; dsimp only; split
  all_goals first
    | exact presentByte_law _ _ _
    | (split
       · exact presentByte_law _ _ _
       · rfl)

@[simp] theorem firstBeat_law (n : Spur) (x : Sending) (s : State) :
    (firstBeat n x s).law = s.law := by
  unfold firstBeat; dsimp only; rw [beginBeat_law]; rfl

theorem beatComplete_moves (n : Spur) (x : Sending) (s : State) :
    Moves s (beatComplete n x s) := by
  unfold beatComplete
  dsimp only
  split
  · exact .other (by rw [beginBeat_law]; rfl)
  · exact (completeParcel_moves _ _ _).afterOther rfl

theorem startParcel_moves (n : Spur) (e : Outbound) (s : State) : Moves s (startParcel n e s) := by
  unfold startParcel
  dsimp only
  split
  · exact (completeParcel_moves _ _ _).afterOther rfl
  · exact .other (by rw [firstBeat_law]; rfl)

theorem decideOut_moves (n : Spur) (s : State) : Moves s (decideOut n s) := by
  unfold decideOut
  dsimp only
  split
  · exact .other (turnIn_law n s)
  · split
    · exact (startParcel_moves _ _ _).afterOther rfl
    · split
      · exact .other (by rw [turnIn_law]; rfl)
      · exact .other rfl

@[simp] theorem decideIn_law (n : Spur) (s : State) : (decideIn n s).law = s.law := by
  unfold decideIn
  dsimp only
  split
  · split <;> rfl
  · split
    · rfl
    · split
      · exact turnOut_law n s
      · split
        · exact turnOut_law n s
        · rfl

theorem decideLane_moves (n : Spur) (s : State) : Moves s (decideLane n s) := by
  unfold decideLane
  split
  · exact decideOut_moves n s
  · exact .other (decideIn_law n s)
  · exact .refl s

@[simp] theorem yieldOut_law (n : Spur) (s : State) : (yieldOut n s).law = s.law := by
  unfold yieldOut
  dsimp only
  split
  · rw [turnOut_law]; rfl
  · rfl

theorem parcelEnd_moves (n : Spur) (s : State) : Moves s (parcelEnd n s) := by
  unfold parcelEnd
  dsimp only
  split
  · exact (decideOut_moves _ _).afterOther rfl
  · exact .refl s

/-! ### Gathering -/

@[simp] theorem refusedByte_law (n : Spur) (b : HeldByte) (d k c : Nat) (s : State) :
    (refusedByte n b d k c s).state.law = s.law := by
  unfold refusedByte
  dsimp only
  split
  · split
    · simp only [State.giveBack_law]; rfl
    · rfl
  · rfl

@[simp] theorem gatherByte_law (n : Spur) (c : Chan) (k : InSettings) (b : Byte) (s : State) :
    (gatherByte n c k b s).state.law = s.law := by
  unfold gatherByte
  dsimp only
  generalize k.drops b = term
  split
  · split
    · rename_i h
      exact (show _ = State.law { s with pool := _ } from rfl).trans
        (State.pool_law (Pool.claimOrdinary_frame h).2.2.1)
    · exact refusedByte_law _ _ _ _ _ _
  · split
    · rfl
    · split
      · split
        · rename_i h
          exact (show _ = State.law { s with pool := _ } from rfl).trans
            (State.pool_law (Pool.claimOrdinary_frame h).2.2.1)
        · exact refusedByte_law _ _ _ _ _ _
      · rfl
  · cases term <;> rfl

@[simp] theorem handByte_law (n : Spur) (b : Byte) (s : State) :
    (handByte n b s).state.law = s.law := by
  unfold handByte
  split
  · rfl
  · split
    · rfl
    · exact gatherByte_law _ _ _ _ _

@[simp] theorem grantedByte_law (n : Spur) (s : State) : (grantedByte n s).law = s.law := by
  unfold grantedByte
  dsimp only
  split <;> rfl

theorem State.countClose_moves (s : State) (c : Chan) (k : Closure) (a b : Nat) :
    Moves s (s.countClose c k a b) := by
  unfold State.countClose
  split
  · exact State.countDrain_moves _ _ _ _
  · exact .refl s

theorem forwardGather_moves (n : Spur) (c : Chan) (cls : DataClass) (bs : List Byte) (k : Closure)
    (s : State) : Moves s (forwardGather n c cls bs k s) := by
  unfold forwardGather
  dsimp only
  split
  · rename_i h
    refine (capture_moves c bs s).trans (Moves.afterOther (t := (capture c bs s).setGatherState n .empty)
      ?_ rfl)
    exact ((Moves.gathered _ cls _ h).thenOther (State.countParcel_law _ _ _)).trans
      (State.countClose_moves _ _ _ _ _)
  · refine (capture_moves c bs s).trans (Moves.afterOther (t := (capture c bs s).setGatherState n .empty)
      ?_ rfl)
    exact (((State.record_moves _ _).thenOther (State.countDrop_law _ _)).trans
      (State.countClose_moves _ _ _ _ _)).thenOther (State.giveBack_law _ _ _ _)

theorem closeGather_moves (n : Spur) (k : Closure) (s : State) : Moves s (closeGather n k s) := by
  unfold closeGather
  dsimp only
  split
  · exact .other rfl
  · split
    · exact .other (by rw [State.giveBack_law]; rfl)
    · exact (forwardGather_moves _ _ _ _ _ _).afterOther rfl
  · split
    · exact .other rfl
    · exact (((State.record_moves _ _).thenOther (State.countDrop_law _ _)).trans
        (State.countClose_moves _ _ _ _ _)).afterOther rfl

theorem dropGather_moves (n : Spur) (s : State) : Moves s (dropGather n s) := by
  unfold dropGather
  dsimp only
  have h : Moves s (match s.inChan n with
      | some c =>
        if 0 < (s.gather n).count then
          (s.setGather n { s.gather n with state := .empty, idleTimer := none }).countDrain c 0 1
        else s.setGather n { s.gather n with state := .empty, idleTimer := none }
      | none => s.setGather n { s.gather n with state := .empty, idleTimer := none }) := by
    split
    · split
      · exact (State.countDrain_moves _ _ _ _).afterOther rfl
      · exact .other rfl
    · exact .other rfl
  split
  · exact h.thenOther (State.giveBack_law _ _ _ _)
  · exact h

@[simp] theorem dropWaiting_law (n : Spur) (s : State) : (dropWaiting n s).law = s.law := by
  unfold dropWaiting
  dsimp only
  split
  · rfl
  · rw [State.leaveWaiting_law]; rfl

/-! ### Inbound beats -/

@[simp] theorem latchByte_law (n : Spur) (p : Profile) (s : State) :
    (latchByte n p s).law = s.law := by
  unfold latchByte
  dsimp only
  refine (show _ = (handByte n _ _).state.law from rfl).trans ?_
  rw [handByte_law]
  split <;> rfl

@[simp] theorem acknowledge_law (n : Spur) (s : State) : (acknowledge n s).law = s.law := by
  unfold acknowledge
  dsimp only
  split
  · rfl
  · split
    · split
      · rfl
      · split <;> rfl
    · rfl

theorem closureTest_law (n : Spur) (x : Receiving) (s : State) :
    (closureTest n x s).2.law = s.law := by
  unfold closureTest
  split
  · rfl
  · split
    · rfl
    · split
      · rfl
      · split
        · rfl
        · split <;> rfl

@[simp] theorem beatEnd_law (n : Spur) (s : State) : (beatEnd n s).law = s.law := by
  unfold beatEnd
  dsimp only
  split
  · rfl
  · rw [State.push_law]
    split
    · rw [closureTest_law]; rfl
    · rfl

@[simp] theorem idleIn_law (n : Spur) (s : State) : (idleIn n s).law = s.law := by
  unfold idleIn
  dsimp only
  split
  · rw [decideIn_law, syncYield_law]; rfl
  · rfl

@[simp] theorem goOnTaking_law (n : Spur) (p : Profile) (s : State) :
    (goOnTaking n p s).law = s.law := by
  unfold goOnTaking
  dsimp only
  split
  · split <;> rfl
  · rfl
  · split <;> rfl
  · split
    · rfl
    · exact latchByte_law n p s

@[simp] theorem beginTaking_law (n : Spur) (p : Profile) (s : State) :
    (beginTaking n p s).law = s.law := by
  unfold beginTaking
  dsimp only
  split
  · split <;> rfl
  all_goals rfl

@[simp] theorem takeBeats_law (n : Spur) (s : State) : (takeBeats n s).law = s.law := by
  unfold takeBeats
  dsimp only
  split
  · split
    · rfl
    · split
      · exact goOnTaking_law _ _ _
      · rw [beginTaking_law]; rfl
  · rfl

@[simp] theorem retake_law (n : Spur) (s : State) : (retake n s).law = s.law := by
  unfold retake
  split
  · dsimp only
    split <;> rfl
  · rfl

theorem inboundStallRest_moves (n : Spur) (c : Chan) (k : Nat) (s : State) :
    Moves s (inboundStallRest n c k s) :=
  (((State.record_moves s _).trans (State.setPhase_moves _ _ _)).thenOther
    (stopTaking_law _ _)).thenOther (State.push_law _ _)

@[simp] theorem inboundExpiry_law (n : Spur) (x : Receiving) (s : State) :
    (inboundExpiry n x s).law = s.law := by
  unfold inboundExpiry
  dsimp only
  split
  · split
    · split
      · rw [State.giveBack_law]; rfl
      · rfl
    · rfl
  · rfl

/-! ### The events of a lane -/

theorem readyWhileSending_moves (n : Spur) (x : Sending) (s : State) :
    Moves s (readyWhileSending n x s) := by
  unfold readyWhileSending
  dsimp only
  split
  · split
    · exact .other (presentByte_law _ _ _)
    · exact .refl s
  · split
    · exact .refl s
    · exact .other rfl
  · split
    · exact beatComplete_moves _ _ _
    · exact .refl s
  · split
    · exact .refl s
    · exact beatComplete_moves _ _ _
  all_goals exact .refl s

@[simp] theorem readyWhileTaking_law (n : Spur) (p : Profile) (s : State) :
    (readyWhileTaking n p s).law = s.law := by
  unfold readyWhileTaking
  dsimp only
  split
  · split
    · exact latchByte_law _ _ _
    · rfl
  · split
    · rfl
    · exact latchByte_law _ _ _
  all_goals rfl

theorem readyChanged_moves (n : Spur) (s : State) : Moves s (readyChanged n s) := by
  unfold readyChanged
  dsimp only
  split
  · split
    · exact readyWhileSending_moves _ _ _
    · exact .refl s
  · split
    · exact .other (readyWhileTaking_law _ _ _)
    · exact .refl s
  · split
    · split <;> exact .other rfl
    · exact .refl s
  · exact .refl s

theorem setupElapsed_moves (n : Spur) (s : State) : Moves s (setupElapsed n s) := by
  unfold setupElapsed
  split
  · split
    · exact .other (strobeAction_law _ _ _)
    · exact .refl s
  · exact .refl s

theorem strobeElapsed_moves (n : Spur) (s : State) : Moves s (strobeElapsed n s) := by
  unfold strobeElapsed
  dsimp only
  split
  · unfold strobeElapsedOut
    dsimp only
    split
    · exact (beatComplete_moves _ _ _).afterOther rfl
    · exact .other rfl
    · exact (beatComplete_moves _ _ _).afterOther rfl
    · exact .refl s
  · unfold strobeElapsedIn
    dsimp only
    split
    · exact .other rfl
    · exact .other ((show _ = (handByte n _ _).state.law from rfl).trans (handByte_law _ _ _))
    all_goals exact .refl s
  · exact .refl s

theorem pacingElapsed_moves (n : Spur) (s : State) : Moves s (pacingElapsed n s) := by
  unfold pacingElapsed
  dsimp only
  split
  · split
    · exact .other rfl
    · exact beatComplete_moves _ _ _
    · exact .refl s
  · split <;> exact .other rfl

theorem ackExpired_moves (n : Spur) (s : State) : Moves s (ackExpired n s) := by
  unfold ackExpired
  dsimp only
  split
  · split
    · exact outboundStall_moves _ _ _
    · exact .refl s
  · split
    · exact .other (inboundExpiry_law _ _ _)
    · exact .refl s
  · exact .refl s

theorem turnInDone_moves (n : Spur) (s : State) : Moves s (turnInDone n s) := by
  unfold turnInDone; dsimp only; split <;> exact .other rfl

theorem turnOutDone_moves (n : Spur) (s : State) : Moves s (turnOutDone n s) := by
  unfold turnOutDone; dsimp only; split <;> exact .other rfl

theorem yieldExpired_moves (n : Spur) (s : State) : Moves s (yieldExpired n s) := by
  unfold yieldExpired; dsimp only; split <;> exact .other rfl

theorem idleExpired_moves (n : Spur) (s : State) : Moves s (idleExpired n s) := by
  unfold idleExpired; split <;> exact .other rfl

/-! ### The Channel Map -/

/-- What the acceptance test can answer (R45): a reason, or the OUT channel's entry with its limit, its
outstanding count and room for one more credit. -/
theorem State.judge_accepts {s : State} {c : Chan} {l : Link} {limit k : Nat}
    (h : s.judge c = .inr (l, limit, k)) :
    s.link c = some l ∧ l.isDraining = false ∧ l.dir = .outbound limit k ∧
    k + s.credit c < limit := by
  unfold State.judge at h
  split at h
  · cases h
  · rename_i l' hl
    split at h
    · cases h
    · rename_i hd
      split at h
      · cases h
      · rename_i limit' k' hk
        split at h
        · cases h
        · rename_i hlt
          simp only [Sum.inr.injEq, Prod.mk.injEq] at h
          obtain ⟨rfl, rfl, rfl⟩ := h
          exact ⟨hl, by simpa using hd, hk, by omega⟩

theorem acceptance_moves (c : Chan) (b : List Byte) (s : State) : Moves s (acceptance c b s) := by
  unfold acceptance
  split
  · exact .other (by rw [State.giveBack_law]; rfl)
  · rename_i l limit k h
    obtain ⟨hl, _, hd, hk⟩ := State.judge_accepts h
    dsimp only
    exact ((Moves.accept s c l limit k hl hd hk).thenOther (u := State.setQueue _ _ _) rfl).thenOther
      (State.push_law _ _)

theorem acceptanceDrop_moves (c : Chan) (r : DropReason) (s : State) :
    Moves s (acceptanceDrop c r s) :=
  (State.record_moves s _).thenOther (State.countDrop_law _ _)

theorem State.record_link (s : State) (r : Record) (c : Chan) : (s.record r).link c = s.link c := by
  unfold State.record; split <;> rfl

theorem State.record_credit (s : State) (r : Record) (c : Chan) :
    (s.record r).credit c = s.credit c := by
  unfold State.record
  split
  · rfl
  · simp [State.credit]

theorem acceptanceDrop_link (c : Chan) (r : DropReason) (s : State) (d : Chan) :
    (acceptanceDrop c r s).link d = s.link d := by
  unfold acceptanceDrop
  rw [State.link_countDrop, State.record_link]

theorem acceptanceDrop_credit (c : Chan) (r : DropReason) (s : State) (d : Chan) :
    (acceptanceDrop c r s).credit d = s.credit d :=
  State.record_credit s _ d

theorem dropReport_moves (c : Chan) (r : DropReason) (s : State) : Moves s (dropReport c r s) := by
  unfold dropReport
  dsimp only
  split
  · exact acceptanceDrop_moves c r s
  · rename_i x h
    obtain ⟨l, limit, k⟩ := x
    obtain ⟨hl, _, hd, hk⟩ := State.judge_accepts h
    refine (acceptanceDrop_moves c r s).trans (Moves.refund _ c l limit k ?_ hd ?_)
    · rw [acceptanceDrop_link]; exact hl
    · rw [acceptanceDrop_credit]; exact hk

theorem drainTest_moves (c : Chan) (s : State) : Moves s (drainTest c s) := by
  unfold drainTest
  split
  · exact .refl s
  · split
    · split
      · dsimp only
        exact ((State.record_moves s _).trans (Moves.shut _ c)).thenOther (State.push_law _ _)
      · exact .refl s
    · exact .refl s

theorem serve_moves (s : State) : Moves s (serve s) := by
  unfold serve
  split
  · exact .refl s
  · split
    · dsimp only
      split
      · exact (Moves.other (grantedByte_law _ _)).afterOther rfl
      · exact (emit_moves _ _).afterOther rfl
    · exact .refl s

end Sys2Proof.Machine
end

