-- ==== Sys2Proof/Laws/MovesCommands.lean ====
section
/-! SUPPORT. What the Return Arbiter, the requests, the resets, one rule, one act and one step can do to
the collections of the laws (see Moves). -/

namespace Sys2Proof.Machine

/-! ### The return path -/

theorem grantNotice_moves {s t : State} (h : grantNotice s = some t) : Moves s t := by
  unfold grantNotice at h
  split at h
  · cases h
  · rename_i p hp
    simp only [Option.some.injEq] at h
    subst h
    refine Moves.trans ?_ (State.startParcelOut_moves _ _ _)
    have h1 : Moves s { s with pool := p } :=
      .other (State.pool_law (Pool.claimManagement_frame hp).1)
    refine (h1.trans (Moves.assemble _)).trans (Moves.granted _ _ ?_ ?_)
    · exact le_rfl
    · exact id

theorem runAfterExpress_le {run : Nat} (h : run ≤ Config.expressRun) (l m : List Inbound) :
    runAfterExpress run l m ≤ Config.expressRun := by
  unfold runAfterExpress
  split
  · split
    · simp
    · exact h
  · exact Nat.min_le_left _ _

theorem grantData_moves (s : State) : Moves s (grantData s) := by
  have hn : ∀ x rest, s.arbiter.normal = x :: rest → Moves s (grantNormal x rest s) := by
    intro x rest h
    refine Moves.trans (Moves.granted s _ ?_ ?_) (State.startParcelOut_moves _ _ _)
    · simp [h]
    · intro _; exact Nat.zero_le _
  have he : ∀ x rest, s.arbiter.express = x :: rest → Moves s (grantExpress x rest s) := by
    intro x rest h
    refine Moves.trans (Moves.granted s _ ?_ ?_) (State.startParcelOut_moves _ _ _)
    · simp only [h, List.length_cons]; omega
    · exact fun hr => runAfterExpress_le hr _ _
  unfold grantData
  split
  · rename_i h _; exact hn _ _ h
  · split
    · rename_i h _ _; exact hn _ _ h
    · rename_i h _; exact he _ _ h
  · rename_i h; exact he _ _ h
  · exact .refl s

theorem grantResponse_moves (r : Response) (rest : List Response) (s : State) :
    Moves s (grantResponse r rest s) := by
  unfold grantResponse
  refine Moves.thenOther ?_ (State.push_law _ _)
  refine Moves.trans (Moves.granted s _ ?_ ?_) (State.startParcelOut_moves _ _ _)
  · exact le_rfl
  · exact id

theorem arbitrate_moves (s : State) : Moves s (arbitrate s) := by
  unfold arbitrate
  split
  · exact .refl s
  · split
    · exact grantResponse_moves _ _ s
    · split
      · exact .other rfl
      · split
        · split
          · rename_i h; exact grantNotice_moves h
          · exact grantData_moves s
        · exact grantData_moves s

/-! ### The requests -/

theorem State.refuse_moves (s : State) (st : Status) : Moves s (s.refuse st).state := .refl s

theorem identify_moves (ps : List Byte) (s : State) : Moves s (identify ps s).state := by
  unfold identify; split <;> exact .refl s

theorem readStatus_moves (ps : List Byte) (s : State) : Moves s (readStatus ps s).state := by
  unfold readStatus; split <;> exact .refl s

/-- Zeroing counters entry by entry changes no link (R187). -/
theorem zeroed_link (s : State) (l : List Chan) (v : Vector Channel 47)
    (h : ∀ c : Chan, v[c.val].link = s.link c) (d : Chan) :
    ((l.foldl (fun (v : Vector Channel 47) (c : Chan) => v.set c.val (s.channel c).zeroed)
      v)[d.val]).link = s.link d := by
  induction l generalizing v with
  | nil => exact h d
  | cons c l ih =>
    refine ih _ fun e => ?_
    by_cases he : e = c
    · subst he; simp [Channel.zeroed, State.link]
    · have hv : c.val ≠ e.val := fun x => he (Fin.ext x.symm)
      simp [hv, h e]

theorem State.link_law {s t : State} (hn : t.notices = s.notices) (ha : t.arbiter = s.arbiter)
    (hr : t.engine.requests = s.engine.requests) (hst : t.store = s.store)
    (hp : t.pool.segmentCells = s.pool.segmentCells) (hl : ∀ c, t.link c = s.link c)
    (hq : t.pending = s.pending) : t.law = s.law := by
  have h : t.link = s.link := funext hl
  unfold State.law
  rw [hn, ha, hr, hst, hp, h, hq]

theorem resetCounters_moves (ps : List Byte) (s : State) :
    Moves s (resetCounters ps s).state := by
  unfold resetCounters
  split
  · refine .other (State.link_law rfl rfl rfl rfl rfl (fun d => ?_) rfl)
    exact zeroed_link s allChans s.channels (fun _ => rfl) d
  · exact .refl s

theorem restartRequest_moves (ps : List Byte) (s : State) :
    Moves s (restartRequest ps s).state := by
  unfold restartRequest; split <;> exact .other rfl

theorem setTrunk_moves (ps : List Byte) (s : State) : Moves s (setTrunk ps s).state := by
  unfold setTrunk
  split
  · split
    · exact .refl s
    · exact (Moves.holdOff s _).thenOther rfl
  · exact .refl s

theorem setProfile_moves (ps : List Byte) (s : State) : Moves s (setProfile ps s).state := by
  unfold setProfile
  split
  · split
    · exact .other rfl
    · exact .refl s
  · exact .refl s

theorem readProfile_moves (ps : List Byte) (s : State) : Moves s (readProfile ps s).state := by
  unfold readProfile
  split
  · split <;> exact .refl s
  · exact .refl s

theorem setSpur_moves (ps : List Byte) (s : State) : Moves s (setSpur ps s).state := by
  unfold setSpur
  split
  · split
    · dsimp only
      split
      · exact .refl s
      · refine .other ?_
        show State.law (match _, _ with | false, true => _ | true, false => _ | _, _ => _) = _
        split
        · unfold enableSpur
          split
          · rw [turnIn_law]; rfl
          · rw [turnOut_law]; rfl
        · rfl
        · rfl
    · exact .refl s
  · exact .refl s

theorem readSpur_moves (ps : List Byte) (s : State) : Moves s (readSpur ps s).state := by
  unfold readSpur
  split
  · split <;> exact .refl s
  · exact .refl s

/-- An OUT channel is opened with a limit of at most 15 and nothing outstanding (R25, R27). -/
theorem readDirection_outbound {dir limit count mode term gap cls : Byte} {m k : Nat}
    (h : readDirection dir limit count mode term gap cls = some (.outbound m k)) :
    k = 0 ∧ m ≤ 15 := by
  unfold readDirection at h
  split at h
  · split at h
    · rename_i hl
      simp only [Option.some.injEq, Direction.outbound.injEq] at h
      exact ⟨h.2.symm, h.1 ▸ hl.2⟩
    · cases h
  · split at h
    · split at h
      · split at h <;> simp at h
      · cases h
    · cases h

theorem openAs_moves {s : State} {c : Chan} {l : Link} (h : s.link c = none)
    (hd : ∀ limit k, l.dir = .outbound limit k → k = 0 ∧ limit ≤ 15) : Moves s (openAs c l s) := by
  unfold openAs
  dsimp only
  refine Moves.thenOther ?_ (State.push_law _ _)
  refine (Moves.opens s c l h hd).trans ?_
  split
  · exact .refl _
  · exact State.setSegState_moves _ _ _

theorem State.openRefusal_none {s : State} {c : Chan} {d : Direction} {n : Spur}
    (h : s.openRefusal c d n = none) : s.link c = none ∧ (s.lane n).config.enable = true := by
  unfold State.openRefusal at h
  split at h
  · cases h
  · rename_i hc
    simp only [Bool.or_eq_true, Option.isSome_iff_ne_none, ne_eq, Bool.not_eq_true',
      not_or, not_not, Bool.not_eq_false] at hc
    exact hc

theorem openChannel_moves (ps : List Byte) (s : State) : Moves s (openChannel ps s).state := by
  unfold openChannel
  split
  · split
    · rename_i c d n k t _ hd _ _ _
      split
      · exact .refl s
      · rename_i hr
        split
        · exact .refl s
        · refine openAs_moves (State.openRefusal_none hr).1 ?_
          intro limit k' hk
          simp only at hk
          subst hk
          exact readDirection_outbound hd
    · exact .refl s
  · exact .refl s

theorem closeChannel_moves (ps : List Byte) (s : State) : Moves s (closeChannel ps s).state := by
  unfold closeChannel
  split
  · split
    · unfold closeAs
      dsimp only
      split
      · exact .refl s
      · split
        · exact (State.setPhase_moves _ _ _).thenOther (State.push_law _ _)
        · exact (State.setPhase_moves _ _ _).thenOther (State.push_law _ _)
        · exact (State.setPhase_moves _ _ _).thenOther (State.push_law _ _)
        · exact .refl s
        · exact .refl s
    · exact .refl s
  · exact .refl s

theorem haltChannel_moves (ps : List Byte) (s : State) : Moves s (haltChannel ps s).state := by
  unfold haltChannel
  split
  · split
    · exact .refl s
    · split
      · exact .refl s
      · split
        · exact (State.setPhase_moves _ _ _).thenOther (State.push_law _ _)
        · exact .refl s
  · exact .refl s

theorem resumeChannel_moves (ps : List Byte) (s : State) :
    Moves s (resumeChannel ps s).state := by
  unfold resumeChannel
  split
  · split
    · exact .refl s
    · split
      · exact .refl s
      · split
        · exact (State.setPhase_moves _ _ _).thenOther (State.push_law _ _)
        · exact .refl s
  · exact .refl s

theorem readChannel_moves (ps : List Byte) (s : State) : Moves s (readChannel ps s).state := by
  unfold readChannel
  split
  · split <;> exact .refl s
  · exact .refl s

theorem rebindTee_moves (c : Chan) (a b : Option Handle) (s : State) :
    Moves s (rebindTee c a b s) := by
  unfold rebindTee
  split
  · exact .refl s
  · dsimp only
    refine Moves.trans ?_ (State.setTee_moves _ _ _)
    cases a <;> cases b
    · exact .refl s
    · exact State.setSegState_moves _ _ _
    · exact State.setSegState_moves _ _ _
    · exact (State.setSegState_moves _ _ _).trans (State.setSegState_moves _ _ _)

theorem setTee_moves (ps : List Byte) (s : State) : Moves s (setTee ps s).state := by
  unfold setTee
  split
  · split
    · split
      · exact .refl s
      · split
        · exact .refl s
        · split
          · exact .refl s
          · split
            · exact .refl s
            · exact rebindTee_moves _ _ _ s
    · exact .refl s
  · exact .refl s

theorem createSegment_moves (ps : List Byte) (s : State) :
    Moves s (createSegment ps s).state := by
  unfold createSegment
  split
  · split
    · exact .refl s
    · split
      · exact .refl s
      · split
        · exact .refl s
        · rename_i h hh
          refine Moves.create s h _ _ ?_
          have := List.find?_some hh
          simpa using this
  · exact .refl s

theorem writeSegment_moves (ps : List Byte) (s : State) : Moves s (writeSegment ps s).state := by
  unfold writeSegment
  split
  · exact .refl s
  · split
    · exact .refl s
    · split
      · exact .refl s
      · split
        · exact .refl s
        · split
          · exact .refl s
          · rename_i h; exact append_moves h

theorem readSegment_moves (ps : List Byte) (s : State) : Moves s (readSegment ps s).state := by
  unfold readSegment
  split
  · split
    · exact .refl s
    · split
      · exact .refl s
      · dsimp only
        split <;> split <;> exact .refl s
  · exact .refl s

theorem deleteSegment_moves (ps : List Byte) (s : State) :
    Moves s (deleteSegment ps s).state := by
  unfold deleteSegment
  split
  · split
    · exact .refl s
    · split
      · exact .refl s
      · rename_i g hg
        split
        · exact .refl s
        · exact (Moves.delete s _ g _ hg rfl).thenOther (State.giveBack_law _ _ _ _)
  · exact .refl s

theorem listSegments_moves (ps : List Byte) (s : State) : Moves s (listSegments ps s).state := by
  unfold listSegments; split <;> exact .refl s

theorem playSegment_moves (ps : List Byte) (s : State) : Moves s (playSegment ps s).state := by
  unfold playSegment
  split
  · split
    · split
      · exact .refl s
      · split
        · exact .refl s
        · split
          · exact .refl s
          · split
            · exact .refl s
            · split
              · exact .refl s
              · split
                · exact .refl s
                · exact ((State.setSegState_moves s _ _).trans
                    (State.setContext_moves _ _ _)).thenOther (State.push_law _ _)
    · exact .refl s
  · exact .refl s

theorem stopPlay_moves (ps : List Byte) (s : State) : Moves s (stopPlay ps s).state := by
  unfold stopPlay
  split
  · split
    · exact .refl s
    · split
      · exact .refl s
      · split
        · exact .refl s
        · exact .other (State.endPlayback_law _ _ _)
  · exact .refl s

theorem setQuota_moves (ps : List Byte) (s : State) : Moves s (setQuota ps s).state := by
  unfold setQuota
  split
  · split
    · exact .refl s
    · rename_i hm
      split
      · exact .refl s
      · rename_i hq
        exact Moves.quota s _ (by omega) (by omega)
  · exact .refl s

theorem executeRequest_moves (code : Byte) (ps : List Byte) (s : State) :
    Moves s (executeRequest code ps s).state := by
  unfold executeRequest
  split
  · exact identify_moves ps s
  · exact readStatus_moves ps s
  · exact resetCounters_moves ps s
  · exact restartRequest_moves ps s
  · exact setTrunk_moves ps s
  · exact setProfile_moves ps s
  · exact readProfile_moves ps s
  · exact setSpur_moves ps s
  · exact readSpur_moves ps s
  · exact openChannel_moves ps s
  · exact closeChannel_moves ps s
  · exact haltChannel_moves ps s
  · exact resumeChannel_moves ps s
  · exact readChannel_moves ps s
  · exact setTee_moves ps s
  · exact createSegment_moves ps s
  · exact writeSegment_moves ps s
  · exact readSegment_moves ps s
  · exact deleteSegment_moves ps s
  · exact listSegments_moves ps s
  · exact playSegment_moves ps s
  · exact stopPlay_moves ps s
  · exact setQuota_moves ps s
  · exact .refl s

/-! ### The Management Engine -/

theorem arrival_moves (b : List Byte) (s : State) : Moves s (arrival b s) := by
  unfold arrival
  split
  · unfold requestArrival
    dsimp only
    split
    · exact .other (by rw [State.giveBack_law]; rfl)
    · split
      · exact ((State.record_moves s _).thenOther (u := State.countEngine _ _) rfl).thenOther
          (State.giveBack_law _ _ _ _)
      · rename_i h
        exact (Moves.join s _ (by simpa using h)).thenOther (State.push_law _ _)
  · exact .other (by rw [State.giveBack_law]; rfl)

theorem fitAnswer_segmentCells (r : Request) (a : Answer) (p : Pool) :
    (fitAnswer r a p).2.segmentCells = p.segmentCells := by
  unfold fitAnswer
  split
  · simp
  · split
    · rename_i h; exact (Pool.claimManagement_frame h).1
    · simp

theorem queueAnswer_moves (r : Request) (a : Answer) (x y : Bool) (s : State) :
    Moves s (queueAnswer r a x y s) := by
  unfold queueAnswer
  dsimp only
  refine Moves.thenOther ?_ (State.push_law _ _)
  refine Moves.trans ?_ (State.handRecords_moves _)
  have h1 : Moves s { s with pool := (fitAnswer r a s.pool).2 } :=
    .other (State.pool_law (fitAnswer_segmentCells r a s.pool))
  refine h1.trans ?_
  refine (Moves.granted { s with pool := (fitAnswer r a s.pool).2 } { s.arbiter with responses := s.arbiter.responses ++
    [{ answer := (fitAnswer r a s.pool).1, restart := x }] } le_rfl id).trans ?_
  exact Moves.leave _ { s.engine with
    requests := s.engine.requests.drop 1
    remembered := if y then some (fitAnswer r a s.pool).1 else s.engine.remembered }
    (by simp)

theorem dropAnswer_moves (r : Request) (x : Bool) (s : State) : Moves s (dropAnswer r x s) := by
  unfold dropAnswer
  refine Moves.thenOther ?_ (State.giveBack_law _ _ _ _)
  refine Moves.thenOther ?_ (State.push_law _ _)
  refine Moves.trans ?_ (State.handRecords_moves _)
  exact Moves.leave s { s.engine with
    requests := s.engine.requests.drop 1
    restartDue := s.engine.restartDue || x } (by simp)

theorem respond_moves (st : Status) (res : List Byte) (s : State) :
    Moves s (respond st res s) := by
  unfold respond
  split
  · exact State.handRecords_moves s
  · dsimp only
    split
    · exact dropAnswer_moves _ _ s
    · exact queueAnswer_moves _ _ _ _ s

theorem execution_moves (r : Request) (s : State) : Moves s (execution r s) := by
  unfold execution
  dsimp only
  have h := executeRequest_moves r.code r.params
    { s with agenda := [], engine := { s.engine with records := some [] } }
  revert h
  generalize executeRequest r.code r.params _ = x
  intro h
  exact (Moves.afterOther (s := s) h rfl).trans (.other rfl)

theorem engineTurn_moves (s : State) : Moves s (engineTurn s) := by
  unfold engineTurn
  split
  · exact .refl s
  · split
    · exact .refl s
    · split
      · exact .refl s
      · split
        · unfold repeatAnswer
          dsimp only
          split
          · exact (dropAnswer_moves _ _ _).afterOther rfl
          · exact (queueAnswer_moves _ _ _ _ _).afterOther rfl
        · exact execution_moves _ s

/-! ### One rule, one act, one step -/

theorem doJob_moves (j : Job) (s : State) : Moves s (doJob j s) := by
  cases j with
  | takeTag d => exact takeTag_moves d s
  | dropReport c r => exact dropReport_moves c r s
  | arrival b => exact arrival_moves b s
  | acceptance c b => exact acceptance_moves c b s
  | acceptanceDrop c r => exact acceptanceDrop_moves c r s
  | capture c b => exact capture_moves c b s
  | engine => exact engineTurn_moves s
  | respond st res => exact respond_moves st res s
  | breakTold => exact breakTold_moves s
  | serve => exact serve_moves s
  | work n => exact .other (work_law n s)
  | decide n => exact decideLane_moves n s
  | parcelEnd n => exact parcelEnd_moves n s
  | parcelEndLater n => exact (parcelEnd_moves n _).afterOther (State.push_law s _)
  | tellContext i => exact tellContext_moves i s
  | testContext i => exact testContext_moves i s
  | pauseContext c => exact pauseContext_moves c s
  | resumeContext c => exact resumeContext_moves c s
  | drainTest c => exact drainTest_moves c s
  | acknowledge n => exact .other (acknowledge_law n s)
  | beatEnd n => exact .other (beatEnd_law n s)
  | idleIn n => exact .other (idleIn_law n s)
  | takeBeats n => exact .other (takeBeats_law n s)
  | closeGather n k => exact closeGather_moves n k s
  | retake n => exact .other (retake_law n s)
  | yieldOut n => exact .other (yieldOut_law n s)
  | stopTaking n => exact .other (stopTaking_law n s)
  | dropWaiting n => exact .other (dropWaiting_law n s)
  | dropGather n => exact dropGather_moves n s
  | dropTee c => exact dropTee_moves c s
  | endContext c => exact .other (endContext_law c s)
  | removePlayback i => exact .other (removePlayback_law i s)
  | freeContext i r => exact freeContext_moves i r s
  | discardQueued c => exact discardQueued_moves c s
  | inboundStall n c k => exact inboundStallRest_moves n c k s
  | restart => exact .restart s
  | arbiter => exact arbitrate_moves s

theorem run_moves (n : Nat) (s : State) : Moves s (run n s) := by
  induction n generalizing s with
  | zero => exact .refl s
  | succ n ih =>
    unfold run
    split
    · exact .refl s
    · rename_i j rest _
      split
      · exact .refl s
      · exact (Moves.afterOther (s := s) (doJob_moves j { s with agenda := rest }) rfl).trans (ih _)

theorem goOn_moves (n : Nat) (s : State) : Moves s (goOn n s) := by
  induction n generalizing s with
  | zero => exact .refl s
  | succ n ih =>
    unfold goOn
    split
    · exact .refl s
    · rename_i j rest _
      exact ((Moves.afterOther (s := s) (doJob_moves j { s with agenda := rest }) rfl).trans
        (run_moves _ _)).trans (ih _)

/-- Carrying the agenda out makes such changes and no others. -/
theorem State.carryOut_moves (s : State) : Moves s s.carryOut :=
  (run_moves _ _).trans (goOn_moves _ _)

/-- An act whose first effects are such changes is such changes. -/
theorem State.act_moves {s t : State} {f : State → State} (hf : ∀ u, u.law = s.law → Moves u (f u))
    (h : s.act f = .next t) : Moves s t := by
  unfold State.act at h
  split at h
  · simp only [Host.Outcome.next.injEq] at h; subst h; exact .refl s
  · simp only [Host.Outcome.next.injEq] at h
    subst h
    exact ((hf _ (State.push_law s _)).afterOther (State.push_law s _)).trans (State.carryOut_moves _)

theorem lostRequest_deliver_moves (b : List Byte) (s : State) : Moves s (deliver b s) := by
  unfold deliver
  split
  · rename_i h
    exact (Moves.other (State.pool_law (Pool.claimManagement_frame h).1)).thenOther
      (State.push_law _ _)
  · exact lostRequest_moves _ _

theorem request_moves {code seq : Byte} {ps : List Byte} {s t : State}
    (h : request code seq ps s = .next t) : Moves s t := by
  unfold request at h
  split at h
  · exact State.act_moves (fun u _ => lostRequest_deliver_moves _ u) h
  · cases h

theorem latchBeat_moves (m : Bool) (d : Byte) (s : State) : Moves s (latchBeat m d s) :=
  (rxBeat_moves m d _).afterOther rfl

/-- A command, where it goes on, makes such changes and no others. -/
theorem exec_moves {c : Instr} {s t : State} (h : exec c s = .next t) : Moves s t := by
  have hnext : ∀ {u : State}, u.law = s.law →
      (Host.Outcome.next u : Host.Outcome State Fault Refusal) = .next t → Moves s t := by
    intro u hu e
    simp only [Host.Outcome.next.injEq] at e
    subst e
    exact .other hu
  cases c with
  | trunkInBeat m d =>
    simp only [exec, execTrunkInBeat] at h
    split at h
    · refine hnext ?_ h; rfl
    · refine State.act_moves (fun u _ => ?_) h
      split
      · exact .other rfl
      · exact latchBeat_moves m d u
  | tirqDeasserted =>
    simp only [exec, execTirqDeasserted] at h
    split at h
    · refine hnext ?_ h; rfl
    · refine State.act_moves (fun u _ => ?_) h
      exact .other rfl
  | gapTimerExpiry => exact State.act_moves (fun u _ => gapExpiry_moves u) h
  | breakConditionChange m q =>
    simp only [exec, execBreakConditionChange] at h
    split at h
    · refine hnext ?_ h
      split <;> rfl
    · refine State.act_moves (fun u _ => ?_) h
      split
      · split
        · exact .other rfl
        · exact latchBeat_moves _ _ u
      · exact .other rfl
  | trunkBreak => exact State.act_moves (fun u _ => declareBreak_moves u) h
  | toakAsserted =>
    simp only [exec, execToakAsserted] at h
    split at h
    · refine hnext ?_ h; rfl
    · exact State.act_moves (fun u _ => ackAsserted_moves u) h
  | toakDeasserted =>
    simp only [exec, execToakDeasserted] at h
    split at h
    · refine hnext ?_ h; rfl
    · exact State.act_moves (fun u _ => ackDeasserted_moves u) h
  | identify _ _ => exact request_moves h
  | readStatus _ _ => exact request_moves h
  | resetCounters _ _ => exact request_moves h
  | restart _ _ => exact request_moves h
  | setTrunk _ _ => exact request_moves h
  | setProfile _ _ => exact request_moves h
  | readProfile _ _ => exact request_moves h
  | setSpur _ _ => exact request_moves h
  | readSpur _ _ => exact request_moves h
  | openChannel _ _ => exact request_moves h
  | closeChannel _ _ => exact request_moves h
  | haltChannel _ _ => exact request_moves h
  | resumeChannel _ _ => exact request_moves h
  | readChannel _ _ => exact request_moves h
  | setTee _ _ => exact request_moves h
  | createSegment _ _ => exact request_moves h
  | writeSegment _ _ => exact request_moves h
  | readSegment _ _ => exact request_moves h
  | deleteSegment _ _ => exact request_moves h
  | listSegments _ _ => exact request_moves h
  | playSegment _ _ => exact request_moves h
  | stopPlay _ _ => exact request_moves h
  | setQuota _ _ => exact request_moves h
  | unknownRequest _ _ _ =>
    simp only [exec, execUnknownRequest] at h
    split at h
    · exact request_moves h
    · cases h
  | repeatAnswer _ _ _ => exact request_moves h
  | snrdyChange n b d =>
    simp only [exec, execSnrdyChange] at h
    split at h
    · refine hnext ?_ h; rfl
    · refine State.act_moves (fun u _ => ?_) h
      split
      · exact .other rfl
      · exact (readyChanged_moves n (u.setReady n b d)).afterOther rfl
  | snatnChange n b =>
    simp only [exec, execSnatnChange] at h
    split at h
    · refine hnext ?_ h; rfl
    · refine State.act_moves (fun u _ => ?_) h
      split <;> exact .other rfl
  | setupTimeElapsed n => exact State.act_moves (fun u _ => setupElapsed_moves n u) h
  | strobeWidthElapsed n d =>
    simp only [exec, execStrobeWidthElapsed] at h
    split at h
    · refine hnext ?_ h; rfl
    · refine State.act_moves (fun u _ => ?_) h
      exact (strobeElapsed_moves n (u.setDataIn n d)).afterOther rfl
  | pacingIntervalElapsed n => exact State.act_moves (fun u _ => pacingElapsed_moves n u) h
  | ackLimitExpiry n => exact State.act_moves (fun u _ => ackExpired_moves n u) h
  | turnInComplete n => exact State.act_moves (fun u _ => turnInDone_moves n u) h
  | turnOutComplete n => exact State.act_moves (fun u _ => turnOutDone_moves n u) h
  | yieldTimerExpiry n => exact State.act_moves (fun u _ => yieldExpired_moves n u) h
  | idleTimerExpiry n => exact State.act_moves (fun u _ => idleExpired_moves n u) h
  | spacingTimerElapsed i => exact State.act_moves (fun u _ => spacingElapsed_moves i u) h
  | holdOffExpiry =>
    refine State.act_moves (fun u _ => ?_) h
    unfold holdOffExpired
    split
    · rename_i p hp; exact .expire u p hp
    · exact .refl u
    · exact .refl u
  | resetNAsserted =>
    simp only [exec, execResetNAsserted, Host.Outcome.next.injEq] at h
    subst h
    exact .lineReset s
  | resetNReleased =>
    simp only [exec, execResetNReleased] at h
    split at h
    · simp only [Host.Outcome.next.injEq] at h
      subst h
      exact (Moves.lineRelease s).trans (State.carryOut_moves _)
    · refine hnext ?_ h; rfl

/-- The changes that such changes make leave the command queue alone. -/
theorem Moves.pending {s t : State} (h : Moves s t) : t.pending = s.pending := by
  induction h with
  | trans _ _ a b => exact b.trans a
  | other e => exact congrArg (fun x => x.2.2.2.2.2.2) e
  | _ => rfl

/-- A step takes the front of the queue; from there, where it goes on, it makes such changes and no
others. -/
theorem step_moves {s t : State} (h : step s = .next t) :
    Moves { s with pending := s.pending.tail } t := by
  unfold step at h
  split at h
  · rename_i hp
    simp only [Host.Outcome.next.injEq] at h
    subst h
    have e : ({ s with pending := s.pending.tail } : State) = s := by
      rw [hp, List.tail_nil, ← hp]
    rw [e]
    exact State.carryOut_moves _
  · rename_i c rest hp
    rw [hp]
    exact exec_moves h

end Sys2Proof.Machine
end

