-- ==== Sys2Proof/Laws/PerInstr.lean ====
section
/-! SUPPORT. One fact for every command, as syntax: the parcel body that a well-formed command hands to
the Management Engine, if it hands one, is at most 240 bytes long (R3). -/

namespace Sys2Proof

namespace Laws.BodyFits

/-- A well-formed command's request body fits in a parcel (R3). -/
def Statement (i : Instr) : Prop :=
  WellFormed i = true → ∀ body, i.requestBody = some body → body.length ≤ Config.maxBody

theorem fits {code seq : Byte} {params body : List Byte} (h : paramsFit params = true)
    (e : some (code :: seq :: params) = some body) : body.length ≤ Config.maxBody := by
  cases e
  exact of_decide_eq_true h

theorem trunkInBeat (m : Bool) (d : Byte) : Statement (.trunkInBeat m d) := fun _ _ e => nomatch e
theorem tirqDeasserted : Statement .tirqDeasserted := fun _ _ e => nomatch e
theorem gapTimerExpiry : Statement .gapTimerExpiry := fun _ _ e => nomatch e
theorem breakConditionChange (m q : Bool) : Statement (.breakConditionChange m q) := fun _ _ e => nomatch e
theorem trunkBreak : Statement .trunkBreak := fun _ _ e => nomatch e
theorem toakAsserted : Statement .toakAsserted := fun _ _ e => nomatch e
theorem toakDeasserted : Statement .toakDeasserted := fun _ _ e => nomatch e
theorem identify (seq : Byte) (params : List Byte) : Statement (.identify seq params) :=
  fun h _ e => fits h e
theorem readStatus (seq : Byte) (params : List Byte) : Statement (.readStatus seq params) :=
  fun h _ e => fits h e
theorem resetCounters (seq : Byte) (params : List Byte) : Statement (.resetCounters seq params) :=
  fun h _ e => fits h e
theorem restart (seq : Byte) (params : List Byte) : Statement (.restart seq params) :=
  fun h _ e => fits h e
theorem setTrunk (seq : Byte) (params : List Byte) : Statement (.setTrunk seq params) :=
  fun h _ e => fits h e
theorem setProfile (seq : Byte) (params : List Byte) : Statement (.setProfile seq params) :=
  fun h _ e => fits h e
theorem readProfile (seq : Byte) (params : List Byte) : Statement (.readProfile seq params) :=
  fun h _ e => fits h e
theorem setSpur (seq : Byte) (params : List Byte) : Statement (.setSpur seq params) :=
  fun h _ e => fits h e
theorem readSpur (seq : Byte) (params : List Byte) : Statement (.readSpur seq params) :=
  fun h _ e => fits h e
theorem openChannel (seq : Byte) (params : List Byte) : Statement (.openChannel seq params) :=
  fun h _ e => fits h e
theorem closeChannel (seq : Byte) (params : List Byte) : Statement (.closeChannel seq params) :=
  fun h _ e => fits h e
theorem haltChannel (seq : Byte) (params : List Byte) : Statement (.haltChannel seq params) :=
  fun h _ e => fits h e
theorem resumeChannel (seq : Byte) (params : List Byte) : Statement (.resumeChannel seq params) :=
  fun h _ e => fits h e
theorem readChannel (seq : Byte) (params : List Byte) : Statement (.readChannel seq params) :=
  fun h _ e => fits h e
theorem setTee (seq : Byte) (params : List Byte) : Statement (.setTee seq params) :=
  fun h _ e => fits h e
theorem createSegment (seq : Byte) (params : List Byte) : Statement (.createSegment seq params) :=
  fun h _ e => fits h e
theorem writeSegment (seq : Byte) (params : List Byte) : Statement (.writeSegment seq params) :=
  fun h _ e => fits h e
theorem readSegment (seq : Byte) (params : List Byte) : Statement (.readSegment seq params) :=
  fun h _ e => fits h e
theorem deleteSegment (seq : Byte) (params : List Byte) : Statement (.deleteSegment seq params) :=
  fun h _ e => fits h e
theorem listSegments (seq : Byte) (params : List Byte) : Statement (.listSegments seq params) :=
  fun h _ e => fits h e
theorem playSegment (seq : Byte) (params : List Byte) : Statement (.playSegment seq params) :=
  fun h _ e => fits h e
theorem stopPlay (seq : Byte) (params : List Byte) : Statement (.stopPlay seq params) :=
  fun h _ e => fits h e
theorem setQuota (seq : Byte) (params : List Byte) : Statement (.setQuota seq params) :=
  fun h _ e => fits h e
theorem unknownRequest (code seq : Byte) (params : List Byte) :
    Statement (.unknownRequest code seq params) := fun h _ e =>
  fits (by simp only [WellFormed, Bool.and_eq_true] at h; exact h.2) e
theorem repeatAnswer (code seq : Byte) (params : List Byte) :
    Statement (.repeatAnswer code seq params) := fun h _ e => fits h e
theorem snrdyChange (n : Spur) (r : Bool) (d : Byte) : Statement (.snrdyChange n r d) := fun _ _ e => nomatch e
theorem snatnChange (n : Spur) (a : Bool) : Statement (.snatnChange n a) := fun _ _ e => nomatch e
theorem setupTimeElapsed (n : Spur) : Statement (.setupTimeElapsed n) := fun _ _ e => nomatch e
theorem strobeWidthElapsed (n : Spur) (d : Byte) : Statement (.strobeWidthElapsed n d) := fun _ _ e => nomatch e
theorem pacingIntervalElapsed (n : Spur) : Statement (.pacingIntervalElapsed n) := fun _ _ e => nomatch e
theorem ackLimitExpiry (n : Spur) : Statement (.ackLimitExpiry n) := fun _ _ e => nomatch e
theorem turnInComplete (n : Spur) : Statement (.turnInComplete n) := fun _ _ e => nomatch e
theorem turnOutComplete (n : Spur) : Statement (.turnOutComplete n) := fun _ _ e => nomatch e
theorem yieldTimerExpiry (n : Spur) : Statement (.yieldTimerExpiry n) := fun _ _ e => nomatch e
theorem idleTimerExpiry (n : Spur) : Statement (.idleTimerExpiry n) := fun _ _ e => nomatch e
theorem spacingTimerElapsed (i : Context) : Statement (.spacingTimerElapsed i) := fun _ _ e => nomatch e
theorem holdOffExpiry : Statement .holdOffExpiry := fun _ _ e => nomatch e
theorem resetNAsserted : Statement .resetNAsserted := fun _ _ e => nomatch e
theorem resetNReleased : Statement .resetNReleased := fun _ _ e => nomatch e

end Laws.BodyFits

end Sys2Proof
end

