-- ==== Sys2Proof/Laws/Requests.lean ====
section
/-! SUPPORT. How a request that finds the engine idle is executed and answered (R173, R174, R140). -/

namespace Sys2Proof.Machine

/-- A response takes exactly the storage it needs, from its request's and from the pool (R140). -/
theorem fitAnswer_holding (r : Request) (a : Answer) (p : Pool)
    (hd : 1 ≤ p.freeDescriptors) (hr : r.cells ≤ p.freeCells) (ha : a.cells ≤ p.freeCells) :
    fitAnswer r a (p.holding (r.params.length + 2)) = (a, p.holding (a.results.length + 3)) := by
  have e1 : cellsFor (r.params.length + 2) = r.cells := rfl
  have e2 : cellsFor (a.results.length + 3) = a.cells := rfl
  unfold fitAnswer
  split
  · rename_i h
    have hp : (p.holding (r.params.length + 2)).put true 0 (r.cells - a.cells) =
        p.holding (a.results.length + 3) := by
      simp only [Pool.holding, Pool.put, if_pos, e1, e2, Pool.mk.injEq, and_true]
      omega
    rw [hp]
  · rename_i h
    have hc : (p.holding (r.params.length + 2)).claimManagement 0 (a.cells - r.cells) =
        some (p.holding (a.results.length + 3)) := by
      rw [Pool.claimManagement_eq, if_pos]
      · simp only [Pool.holding, e1, e2, Option.some.injEq, Pool.mk.injEq, and_true]
        omega
      · simp only [Pool.holding, e1]; omega
    rw [hc]

/-- A request that finds the engine idle is executed in the act of its arrival; what its rule has put
on the agenda comes before its response (R173, R174). -/
theorem request_execution {s : State} {code seq : Byte} {params : List Byte} {res : Nat}
    (hs : Settled s) (he : Ready s code seq params.length res) (hf : paramsFit params = true)
    {x : Reply} (hx : executeRequest code params (s.executing code seq params) = x) :
    request code seq params s = .next (goOn Config.endlessBound (run 4294967294 { x.state with
      agenda := x.state.agenda ++ [.respond x.status x.results, .arbiter] })) := by
  have hc := Pool.claimManagement_holding (n := params.length + 2) he.descriptor he.requestCells
  unfold request
  rw [if_pos hf, State.act_live hs.live]
  have hd : deliver (code :: seq :: params) (s.push [.arbiter]) =
      { s with pool := s.pool.holding (params.length + 2)
               agenda := [.arrival (code :: seq :: params), .arbiter] } := by
    simp only [deliver, State.push_pool, List.length_cons, hc]
    simp [State.push, hs.agenda]
  rw [hd]
  show Host.Outcome.next (goOn Config.endlessBound (run (4294967295 + 1) _)) = _
  rw [run_cons rfl rfl]
  show Host.Outcome.next (goOn Config.endlessBound (run (4294967294 + 1) _)) = _
  have ha : doJob (.arrival (code :: seq :: params))
      { s with pool := s.pool.holding (params.length + 2), agenda := [.arbiter] } =
      { s with
        pool := s.pool.holding (params.length + 2)
        engine := { s.engine with
          requests := [{ code := code, seq := seq, params := params, discard := false }] }
        agenda := [.engine, .arbiter] } := by
    simp [doJob, arrival, requestArrival, he.idle, Config.requestDepth, State.push]
  rw [ha, run_cons rfl rfl]
  have ht : doJob .engine { s with
        pool := s.pool.holding (params.length + 2)
        engine := { s.engine with
          requests := [{ code := code, seq := seq, params := params, discard := false }] }
        agenda := [.arbiter] } =
      { x.state with agenda := x.state.agenda ++ [.respond x.status x.results, .arbiter] } := by
    have hrep : ∀ (q : List Request) (b : Bool) (l : Option (List Record)),
        ({ requests := q, remembered := s.engine.remembered, hold := b,
           restartDue := s.engine.restartDue, counts := s.engine.counts, records := l } : Engine).repeats
          { code := code, seq := seq, params := params, discard := false } = none := by
      intro q b l
      simp only [Engine.repeats]
      cases hm : s.engine.remembered with
      | none => rfl
      | some a => simp [he.fresh a hm]
    have hslot : ¬ Config.responseDepth ≤ s.arbiter.responses.length := by
      have := he.slot; omega
    simp only [doJob, engineTurn, he.free, he.between, Option.isSome_none, Bool.or_false,
      Bool.false_eq_true, if_false, hslot]
    rw [hrep]
    subst hx
    simp only [execution, State.executing, he.free]
  rw [ht]

/-- A request that finds the engine idle, whose rule asks for nothing but its effects, leaves the state
t of those effects, answered (R174). -/
theorem request_answered {s t : State} {code seq : Byte} {params : List Byte} {st : Status}
    {results : List Byte} (hs : Settled s) (he : Ready s code seq params.length results.length)
    (hf : paramsFit params = true)
    (hx : executeRequest code params (s.executing code seq params) =
      { state := t.executing code seq params, status := st, results := results })
    (hb : t.tx.isSome = true) (hw : t.pool.waiting = []) (ha : t.agenda = [])
    (hr : t.engine.requests = []) (hn : t.engine.records = none)
    (hd : 1 ≤ t.pool.freeDescriptors) (hk : cellsFor (params.length + 2) ≤ t.pool.freeCells)
    (hk' : cellsFor (results.length + 3) ≤ t.pool.freeCells) :
    request code seq params s = .next (t.answered code seq st results) := by
  rw [request_execution hs he hf hx]
  show Host.Outcome.next (goOn Config.endlessBound (run (4294967293 + 1) _)) = _
  rw [run_cons rfl rfl]
  have hfit := fitAnswer_holding { code := code, seq := seq, params := params, discard := false }
    { code := code, seq := seq, status := st, results := results } t.pool hd hk hk'
  have hq : doJob (.respond st results)
      { t.executing code seq params with agenda := [.arbiter] } =
      { t.answered code seq st results with agenda := [.serve, .engine, .arbiter] } := by
    simp only [doJob, respond, State.executing, queueAnswer, hfit]
    simp [State.handRecords, State.push, State.answered, hr, hn]
  show Host.Outcome.next (goOn Config.endlessBound (run 4294967293 (doJob (.respond st results)
      { t.executing code seq params with agenda := [.arbiter] }))) = _
  rw [hq]
  show Host.Outcome.next (goOn Config.endlessBound (run (4294967292 + 1) _)) = _
  rw [run_cons rfl rfl]
  simp only [doJob]
  rw [serve_alone (by exact hw)]
  show Host.Outcome.next (goOn Config.endlessBound (run (4294967291 + 1) _)) = _
  rw [run_cons rfl rfl]
  simp only [doJob]
  rw [engineTurn_idle (by exact hr)]
  show Host.Outcome.next (goOn Config.endlessBound (run (4294967290 + 1) _)) = _
  rw [run_arbiter_busy rfl (by exact hb), goOn_settled rfl]
  congr 1
  simp [State.answered, ha]

/-- A request that its rule refuses changes nothing but what answering it changes (R170). -/
theorem request_refused {s : State} {code seq : Byte} {params : List Byte} {st : Status}
    (hs : Settled s) (he : Ready s code seq params.length 0) (hf : paramsFit params = true)
    (hx : executeRequest code params (s.executing code seq params) =
      (s.executing code seq params).refuse st) :
    request code seq params s = .next (s.answered code seq st []) :=
  request_answered hs he hf hx hs.busy hs.alone hs.agenda he.idle he.between he.descriptor
    he.requestCells he.responseCells

end Sys2Proof.Machine
end

