-- ==== Sys2Proof/Tests/Slice0.lean ====
section
/-! SUPPORT. Tests. First the checks of WellFormed and single steps whose expected results are written
out from the spec's examples and tables; then, for every statement of Certificates/Slice0 that has
hypotheses, witnesses that meet them, one for each clause at a boundary value. -/

namespace Sys2Proof.Tests

/- One theorem after another: each kernel evaluation that waits for another takes a thread. -/
set_option Elab.async false

open Sys2Proof.Machine

/-! ### Helpers -/

/-- The next state of an outcome, where there is one. -/
def outcome (o : Host.Outcome State Fault Refusal) : State :=
  match o with | .next t => t | _ => State.reset

/-- The state after a command. -/
def after (c : Instr) (s : State) : State := outcome (exec c s)

/-- The outcome is a next state. -/
def isNext (o : Host.Outcome State Fault Refusal) : Bool := match o with | .next _ => true | _ => false

/-- The outcome is this refusal. -/
def refuses (o : Host.Outcome State Fault Refusal) (r : Refusal) : Bool :=
  match o with | .refused q => decide (q = r) | _ => false

theorem goesOn {o : Host.Outcome State Fault Refusal} (h : isNext o = true) : ∃ t, o = .next t := by
  cases o with
  | next t => exact ⟨t, rfl⟩
  | fault f => cases h
  | refused r => cases h

/-- Settled, as a Bool. -/
def settledB (s : State) : Bool :=
  !s.inReset && s.agenda.isEmpty && s.tx.isSome && s.pool.waiting.isEmpty

theorem settled {s : State} (h : settledB s = true) : Settled s := by
  simp only [settledB, Bool.and_eq_true, Bool.not_eq_true', List.isEmpty_iff] at h
  exact ⟨h.1.1.1, h.1.1.2, h.1.2, h.2⟩

/-- Ready, as a Bool. -/
def readyB (s : State) (code seq : Byte) (req res : Nat) : Bool :=
  s.engine.requests.isEmpty && !s.engine.hold && s.engine.records.isNone &&
  decide (s.arbiter.responses.length < Config.responseDepth) &&
  s.engine.remembered.all (fun a => !decide (a.code = code ∧ a.seq = seq)) &&
  decide (1 ≤ s.pool.freeDescriptors) && decide (cellsFor (req + 2) ≤ s.pool.freeCells) &&
  decide (cellsFor (res + 3) ≤ s.pool.freeCells)

theorem ready {s : State} {code seq : Byte} {req res : Nat} (h : readyB s code seq req res = true) :
    Ready s code seq req res := by
  simp only [readyB, Bool.and_eq_true, Bool.not_eq_true', List.isEmpty_iff, decide_eq_true_eq,
    Option.isNone_iff_eq_none] at h
  obtain ⟨⟨⟨⟨⟨⟨⟨h1, h2⟩, h3⟩, h4⟩, h5⟩, h6⟩, h7⟩, h8⟩ := h
  refine ⟨h1, h2, h3, h4, ?_, h6, h7, h8⟩
  intro a ha
  simpa [ha, not_and_or, imp_iff_not_or] using h5

/-- The credit law, as a Bool. -/
def creditB (s : State) : Bool :=
  (List.finRange 47).all fun c => match s.link c with
    | none => decide (s.credit c = 0)
    | some l => match l.dir with
      | .outbound limit outstanding =>
        decide (outstanding + s.credit c ≤ limit) && decide (limit ≤ 15)
      | .inbound _ => decide (s.credit c = 0)

theorem creditLaw {s : State} (h : creditB s = true) : CreditLaw s := by
  intro c
  have hc := (List.all_eq_true.mp h) c (List.mem_finRange c)
  cases hl : s.link c with
  | none => simpa [hl] using hc
  | some l => cases hd : l.dir <;> simpa [hl, hd] using hc

theorem everySegment {s : State} {p : Segment → Bool}
    (h : (List.finRange 16).all (fun i => (s.segment i).all p) = true) :
    ∀ i g, s.segment i = some g → p g = true := by
  intro i g hg
  simpa [hg] using (List.all_eq_true.mp h) i (List.mem_finRange i)

/-- An OPEN OUT channel's link on spur 0. -/
def outLink (limit k : Nat) : Link :=
  { dir := .outbound limit k, spur := 0, profile := 0, tee := none, phase := .opened }

/-- The IN channel of section 11.2, on spur 0. -/
def scale : InSettings :=
  { gatherCount := 32, terminator := some { byte := 0x0D, keep := false }, idleGap := some 50
    cls := .normal }

/-- An OPEN IN channel's link on spur 0. -/
def inLink : Link :=
  { dir := .inbound scale, spur := 0, profile := 0, tee := none, phase := .opened }

/-- A lane that is OFF, with the configuration of a reset. -/
def lane : Lane := Lane.cut SpurConfig.default false false 0

/-- The reset state with another lane on spur 0. -/
def onLane (l : Lane) : State := State.reset.setLane 0 l

/-- A GATED profile. -/
def gated : Profile := { Profile.default with discipline := .gated }

/-- A host parcel of channel 1. -/
def hostParcel (body : List Byte) : Outbound := { chan := 0, origin := .host, body := body }

/-- A parcel under reception with tag 1. -/
def reception : Reception :=
  { tag := 1, len := 2, count := 0, stored := some [], first := [], gapLimit := 20 }

/-- The reset state with the receiver in a state of its own. -/
def onRx (st : RxState) : State :=
  { State.reset with rx := { Receiver.fresh with state := st, gapTimer := some 20 } }

/-- The reset state with the transmitter at a beat. -/
def onTx (beat : Nat) (phase : TxPhase) (restart toak : Bool) : State :=
  { State.reset with
    trunkOut := { State.reset.trunkOut with toak := toak, torq := !toak }
    tx := some { parcel := { tag := 48, body := [0, 1, 0, 0, 1] }, beat := beat, phase := phase
                 restart := restart } }

/-- A READY segment with entries. -/
def segment (entries : List (List Byte)) : Segment :=
  { label := [0x4A, 0x4F, 0x42, 0x31], state := .ready, cellLimit := 4, entries := entries }

/-- A context of the test's own: it plays segment 1 onto channel 1. -/
def playback (count : Nat) (timer : Spacing) : Playback :=
  { phase := .active, handle := 0, chan := 0, spur := 0, next := 2, repeats := some 1, spacing := 1
    count := count, timer := timer }

/-! ### WellFormed -/

theorem test_body_of_240_bytes_fits : WellFormed (.identify 0 (List.replicate 238 0)) = true := by
  decide +kernel

theorem test_body_of_241_bytes_refused :
    WellFormed (.identify 0 (List.replicate 239 0)) = false ∧
    refuses (exec (.identify 0 (List.replicate 239 0)) State.reset) .bodyTooLong = true := by
  decide +kernel

theorem test_code_of_a_request_refused :
    WellFormed (.unknownRequest 23 0 []) = false ∧
    refuses (exec (.unknownRequest 23 0 []) State.reset) .codeOfARequest = true := by
  decide +kernel

theorem test_unknown_codes_well_formed :
    WellFormed (.unknownRequest 0 0 []) = true ∧ WellFormed (.unknownRequest 24 0 []) = true := by
  decide

theorem test_no_word_spells_a_command : decodeTableWord 8 1 = none := rfl

/-! ### Single steps -/

/-- The example of section 1.2. -/
theorem test_check_of_section_1_2 :
    ({ tag := 5, body := [0x10, 0x20, 0x30] } : Parcel).beats = [5, 3, 0x10, 0x20, 0x30, 0x98] := by
  decide

/-- R183 and section 11.1: the 15 bytes, after code, sequence and status. -/
theorem test_identify_answer :
    ((after (.identify 7 []) State.reset).arbiter.responses.map fun r => r.answer.bytes) =
      [[1, 7, 0, 0x4C, 0x43, 0x32, 0x32, 0x36, 0x30, 3, 47, 4, 8, 0, 128, 16, 8, 4]] := by
  decide +kernel

/-- Section 11.1, seq 2: profile 1, INTERLOCK, setup 5, strobe 10, pacing 100, ack limit 2000. -/
theorem test_set_profile_of_section_11_1 :
    (after (.setProfile 2 [1, 0, 5, 10, 0, 100, 0x07, 0xD0]) State.reset).profile 1 =
      { discipline := .interlock, setup := 5, strobe := 10, pacing := 100, ackLimit := 2000 } := by
  decide +kernel

/-- Section 11.1, seq 3: the answer is the defaults before, and lane S0 turns out. -/
theorem test_set_spur_of_section_11_1 :
    let t := after (.setSpur 3 [0, 1, 0, 5, 0, 20]) State.reset
    (t.arbiter.responses.map fun r => r.answer.bytes) = [[8, 3, 0, 0, 0, 5, 0, 20]] ∧
    (t.lane 0).state = .turnOut := by
  decide +kernel

/-- Section 11.1: 5 µs later the lane is IDLE_OUT and drives 00h. -/
theorem test_turn_out_complete_drives_zero :
    let t := after (.turnOutComplete 0)
      (onLane { lane with state := .turnOut, guardTimer := some 5 })
    (t.lane 0).state = .idleOut ∧ (t.lane 0).drive = some 0 := by
  decide +kernel

/-- Section 11.1, seq 4: channel 2, OUT, S0, profile 1, limit 4. -/
theorem test_open_channel_of_section_11_1 :
    (after (.openChannel 4 [2, 0, 0, 1, 4, 0, 0, 0, 0, 0, 0])
      (onLane { lane with config := { SpurConfig.default with enable := true }
                          state := .turnOut, guardTimer := some 5 })).link 1 =
      some { dir := .outbound 4 0, spur := 0, profile := 1, tee := none, phase := .opened } := by
  decide +kernel

/-- Section 11.2, first row: SnATN turns the lane in (R72 case 1). -/
theorem test_attention_of_section_11_2 :
    ((after (.snatnChange 0 true)
      ((onLane { lane with state := .idleOut, drive := some 0 }).setLink 9 (some inLink))).lane
        0).state = .turnIn := by
  decide +kernel

/-- Section 11.2, second row: the guard expires, beats begin and the offer is asserted (R87). -/
theorem test_turn_in_complete_of_section_11_2 :
    let t := after (.turnInComplete 0)
      ((onLane { lane with state := .turnIn, ready := true, atn := true
                           guardTimer := some 5 }).setLink 9 (some inLink))
    (t.lane 0).state = .idleIn ∧ (t.lane 0).strobe = true ∧ (t.lane 0).offer = true := by
  decide +kernel

/-- Section 11.2, third row: 2Bh is latched, with a descriptor and a cell. -/
theorem test_first_byte_of_section_11_2 :
    let s := (onLane { lane with state := .idleIn, ready := true, atn := true, offer := true
                                 strobe := true, inSnap := some Profile.default }).setLink 9
      (some inLink)
    let t := after (.snrdyChange 0 false 0x2B) s
    (t.gather 0).state = .filling 9 .normal [0x2B] ∧
    t.pool = { s.pool with freeCells := 2046, freeDescriptors := 126 } := by
  decide +kernel

/-- Section 11.3: the ack limit expires at beat 6, waiting for the return to READY, and a parcel of
another channel is behind. -/
theorem test_stall_of_section_11_3 :
    let snap : Profile := { Profile.default with ackLimit := 2000 }
    let s := ((onLane { lane with
        state := .sending, ready := false
        sending := some { parcel := hostParcel (List.replicate 12 0), snap := snap, done := 5
                          phase := .waitReturn, ackTimer := some 2000 } }).setLink 0
          (some (outLink 4 2))).setLink 7 (some (outLink 4 2))
    let t := after (.ackLimitExpiry 0) (s.setQueue 0
      [{ chan := 7, origin := .host, body := [1] }, hostParcel [2]])
    t.link 0 = some { outLink 4 1 with phase := .halted .stall } ∧ t.credit 0 = 1 ∧
    t.notices.fifo = [.stall 0 5] ∧ t.queue 0 = [hostParcel [2]] ∧
    ((t.lane 0).sending.map fun x => (x.parcel.chan, x.phase)) = some (7, .waitReady) := by
  decide +kernel

/-- Section 11.4: CREATE SEGMENT with cell limit 4 and label "JOB1" returns handle 1. -/
theorem test_create_segment_of_section_11_4 :
    let t := after (.createSegment 0 [0, 4, 4, 0x4A, 0x4F, 0x42, 0x31]) State.reset
    t.segment 0 = some (segment []) ∧
    (t.arbiter.responses.map fun r => r.answer.bytes) = [[16, 0, 0, 1]] := by
  decide +kernel

/-- Section 11.4: SET TEE binds channel 2 to handle 1 and returns 0. -/
theorem test_set_tee_of_section_11_4 :
    let t := after (.setTee 0 [2, 1])
      ((State.reset.setLink 1 (some (outLink 4 0))).setSegment 0 (some (segment [])))
    (t.arbiter.responses.map fun r => r.answer.bytes) = [[15, 0, 0, 0]] ∧
    (t.segment 0).map Segment.state = some .capturing := by
  decide +kernel

/-- Section 11.4, the row of Q3: the entry does not fit, the tee is dropped and CAPFULL tells it. -/
theorem test_capture_full_of_section_11_4 :
    let entry : List Byte := List.replicate 40 0
    let full : Segment := { segment [entry, entry] with state := .capturing }
    let s := ((onRx (.check { reception with tag := 2, stored := some entry })).setLink 1
      (some { outLink 4 0 with tee := some 0 })).setSegment 0 (some full)
    let t := after (.trunkInBeat false 0) s
    t.segment 0 = some (segment [entry, entry]) ∧ (t.link 1).map Link.tee = some none ∧
    t.notices.fifo = [.capfull 0 2] ∧ (t.queue 0).length = 1 := by
  decide +kernel

/-- Section 11.4, first row of the replay: A1 and B1 are emitted with spacing 0. -/
theorem test_play_segment_of_section_11_4 :
    let s := ((onLane { lane with state := .turnOut, guardTimer := some 5 }).setLink 4
      (some (outLink 4 0))).setSegment 0 (some (segment [[1], [2]]))
    let t := after (.playSegment 0 [1, 5, 2, 0]) s
    (t.queue 0).map Outbound.body = [[1], [2]] ∧
    (t.context 0).map (fun p => (p.phase, p.next, p.repeats, p.count)) =
      some (.active, 1, some 1, 2) := by
  decide +kernel

/-- Section 11.5: HALT CHANNEL of an OPEN channel answers OK, and is then HALTED with cause HOST. -/
theorem test_halt_channel_of_section_11_5 :
    let t := after (.haltChannel 21 [6]) (State.reset.setLink 5 (some (outLink 4 0)))
    (t.arbiter.responses.map fun r => r.answer.bytes) = [[12, 21, 0]] ∧
    (t.link 5).map Link.phase = some (.halted .host) := by
  decide +kernel

/-- Section 11.5: the retry is answered from the remembered response and counted. -/
theorem test_repeat_of_section_11_5 :
    let a : Answer := { code := 12, seq := 21, status := .ok, results := [] }
    let t := after (.repeatAnswer 12 21 [6])
      { State.reset with engine := { Engine.fresh with remembered := some a } }
    (t.arbiter.responses.map fun r => r.answer.bytes) = [[12, 21, 0]] ∧
    t.engine.counts.repeats = 1 := by
  decide +kernel

/-- R193: the first notice after a line reset, as section 11.1 has it. -/
theorem test_first_notice_of_section_11_1 :
    (after .resetNReleased (after .resetNAsserted State.reset)).tx.map (fun t => t.parcel.beats.length) =
      some 8 := by
  decide +kernel

/-- Section 11.1, the row of the half limit: the second credit triggers a notice at once. -/
theorem test_half_limit_of_section_11_1 :
    let s := State.reset.setLink 1 (some (outLink 4 1))
    let two : State := { s with notices := (s.notices.addCredit 1).addCredit 1 }
    let one : State := { s with notices := s.notices.addCredit 1 }
    two.eligible = true ∧ one.eligible = false ∧ one.notices.timer = .running 10 ∧
    two.notices.nextBody = [1, 2, 2, 0, 2] := by
  decide +kernel

/-- R119 and R127 at an idle boundary: behind the zero-length entry of an endless unspaced playback, a
host parcel of length 0 completes on a channel with a credit limit of 1; its credit makes a notice
eligible, which is granted in the same act. -/
theorem test_idle_boundary_after_endless_playback :
    let p : Playback :=
      { phase := .active, handle := 0, chan := 0, spur := 0, next := 2, repeats := none, spacing := 0
        count := 1, timer := .elapsed }
    let s := ((((onLane { lane with state := .turnOut }).setLink 0 (some (outLink 4 0))).setLink 1
      (some (outLink 1 1))).setSegment 0 (some { segment [[], [1]] with state := .playing })).setContext
        0 (some p) |>.setQueue 0
          [{ chan := 0, origin := .playback (some 0), body := [] },
           { chan := 1, origin := .host, body := [] }]
    let t := after (.turnOutComplete 0) { s with tx := none }
    t.credit 1 = 0 ∧ t.tx.map (fun x => x.parcel.body) = some [1, 2, 2, 0, 1] ∧
    ((t.lane 0).sending.map fun x => x.parcel.body) = some [1] := by
  decide +kernel

/-- R159: after such an entry the context's count, and what follows from it, come first; only the lane's
decision is put behind. -/
theorem test_completion_after_endless_playback :
    let p : Playback :=
      { phase := .active, handle := 0, chan := 0, spur := 0, next := 2, repeats := none, spacing := 0
        count := 2, timer := .elapsed }
    let s := ((State.reset.setLink 0 (some (outLink 4 0))).setSegment 0
      (some { segment [[], [1]] with state := .playing })).setContext 0 (some p)
    (completeParcel 0 { chan := 0, origin := .playback (some 0), body := [] } s).agenda =
      [.serve, .tellContext 0, .drainTest 0, .parcelEndLater 0] := by
  decide +kernel

/-- R159 where such a playback never ends: wherever the act is cut, only the lane's decision is left, and
the context's count is the number of its parcels. -/
theorem test_cut_of_an_endless_playback :
    let e : Outbound := { chan := 0, origin := .playback (some 0), body := [] }
    let p : Playback :=
      { phase := .active, handle := 0, chan := 0, spur := 0, next := 1, repeats := none, spacing := 0
        count := 2, timer := .elapsed }
    let s := (((onLane { lane with state := .turnOut }).setLink 0 (some (outLink 4 0))).setSegment 0
      (some { segment [[]] with state := .playing })).setContext 0 (some p) |>.setQueue 0 [e, e]
    ∀ k ∈ [0, 1, 5],
      let t := goOn k (run Config.actBound (turnOutDone 0 s))
      t.agenda = [.parcelEndLater 0] ∧
      (t.context 0).map (fun q => q.count) = some (t.queue 0).length := by
  decide +kernel

/-- R144 and R166: a context that waits at the head of the list leaves it first, and the gather behind it
is served at once, before its queued parcel gives storage back: the gather's 33 bytes close it, and its
capture finds no cell. -/
theorem test_stop_play_of_a_waiting_context :
    let x : Receiving := { disc := .toggle, ackLimit := 0, phase := .held, byte := none, tests := true
                           term := false, ackTimer := none }
    let k : Link := { inLink with
      dir := .inbound { scale with gatherCount := 33, terminator := none }, spur := 1, tee := some 1 }
    let p : Playback :=
      { phase := .waiting, handle := 0, chan := 0, spur := 0, next := 2, repeats := some 1
        spacing := 1, count := 1, timer := .elapsed }
    let s := (((State.reset.setLink 0 (some (outLink 4 0))).setLink 1 (some k)).setSegment 0
      (some { segment [[1], List.replicate 161 2] with state := .playing })).setSegment 1
        (some { segment [] with state := .capturing }) |>.setContext 3 (some p) |>.setQueue 0
          [{ hostParcel (List.replicate 240 1) with origin := .playback (some 3) }] |>.setColumn 1
            { queue := []
              lane := { lane with
                state := .receiving, receiving := some x
                inSnap := some { Profile.default with discipline := .toggle } }
              gather := { state := .filling 1 .normal (List.replicate 32 7), idleTimer := none
                          lossy := false, waiting := some { byte := 7, term := false } } }
    let waiting : List Waiter := [{ who := .context 3, descriptors := 1, cells := 6 },
      { who := .gather 1, descriptors := 0, cells := 1 }]
    let t := after (.stopPlay 0 [1])
      { s with pool := { s.pool with freeCells := 65, waiting := waiting } }
    t.notices.fifo = [.capfull 1 0, .playend 0 0 .stopped] ∧ t.pool.waiting = [] ∧
    t.arbiter.normal.length = 1 := by
  decide +kernel

/-! ### Witnesses: the machine as a whole -/

theorem witness_StepRunsFrontCommand :
    ({ State.reset with pending := [.holdOffExpiry] } : State).pending = .holdOffExpiry :: [] ∧
    State.reset.pending = [] ∧ State.reset.agenda = [] := ⟨rfl, rfl, rfl⟩

theorem witness_EveryCommandGoesOn :
    WellFormed (.unknownRequest 24 0 []) = true ∧ WellFormed (.unknownRequest 23 0 []) = false := by
  decide

/-- The FIFO, the data queues and the express run at their bounds, and a break that adds a record. -/
theorem witness_StepKeepsReturnPathBounds :
    let x : Inbound := { chan := 0, body := [1] }
    let s : State := { State.reset with
      pending := [.trunkBreak]
      rx := { Receiver.fresh with breakTimer := .running }
      notices := { State.reset.notices with fifo := List.replicate 48 .brk }
      arbiter := { State.reset.arbiter with
        express := List.replicate 24 x, normal := List.replicate 24 x, run := 8 } }
    ReturnPathBounds s ∧ ∃ t, step s = .next t :=
  ⟨⟨by decide +kernel, by decide +kernel, by decide +kernel⟩, goesOn (by decide +kernel)⟩

/-- A running hold-off timer beside one credit, with its expiry in the queue. -/
theorem witness_StepKeepsHoldOffLaw :
    let s : State := { State.reset with
      pending := [.holdOffExpiry], notices := State.reset.notices.addCredit 0 }
    HoldOffLaw s ∧ ∃ t, step s = .next t :=
  ⟨by unfold HoldOffLaw; decide +kernel, goesOn (by decide +kernel)⟩

/-- A credit limit of 15 used up by outstanding and unreported credit. -/
theorem witness_StepKeepsCreditLaw :
    let s0 := State.reset.setLink 0 (some (outLink 15 14))
    let s : State := { s0 with
      pending := [.haltChannel 0 [1]], notices := s0.notices.addCredit 0 }
    CreditLaw s ∧ ∃ t, step s = .next t :=
  ⟨creditLaw (by decide +kernel), goesOn (by decide +kernel)⟩

/-- One segment that fills its limit and the quota, and a write to it. -/
theorem witness_StepKeepsSegmentLaw :
    let s0 := State.reset.setSegment 0 (some (segment (List.replicate 4 [1])))
    let s : State := { s0 with
      pending := [.writeSegment 0 [1, 7]]
      pool := { s0.pool with freeCells := 2043, segmentCells := 4 }
      store := { s0.store with quota := 4 } }
    SegmentLaw s ∧ ∃ t, step s = .next t :=
  ⟨⟨fun h g e => of_decide_eq_true (everySegment (p := fun g => decide (g.entries.length ≤ 255))
      (by decide +kernel) h g e),
    fun h g e => of_decide_eq_true (everySegment (p := fun g => decide (g.cellsHeld ≤ g.cellLimit))
      (by decide +kernel) h g e),
    by decide +kernel, by decide +kernel, by decide +kernel⟩, goesOn (by decide +kernel)⟩

/-- Four requests held behind a full response queue, and a fifth that arrives. -/
theorem witness_StepKeepsRequestBound :
    let s : State := { State.reset with
      pending := [.identify 9 []]
      arbiter := { State.reset.arbiter with
        responses := List.replicate 4 (reply 1 0 .ok [] false) }
      engine := { Engine.fresh with
        requests := List.replicate 4 { code := 1, seq := 1, params := [], discard := false } } }
    RequestBound s ∧ ∃ t, step s = .next t :=
  ⟨by unfold RequestBound; decide +kernel, goesOn (by decide +kernel)⟩

/-! ### Witnesses: resets -/

theorem witness_ResetHoldsEverythingButLevels :
    let s : State := { State.reset with inReset := true }
    s.inReset = true ∧ Instr.toakAsserted ≠ .resetNAsserted ∧ Instr.toakAsserted ≠ .resetNReleased ∧
    ∃ t, exec .toakAsserted s = .next t :=
  ⟨rfl, by decide, by decide, goesOn (by decide +kernel)⟩

/-- TOAK deasserted and asserted at the release, and TIMK asserted with TIRQ deasserted. -/
theorem witness_LineReset :
    let s (toak : Bool) : State := { State.reset with
      inReset := true, trunkIn := { State.reset.trunkIn with timk := true }
      trunkOut := { tod := 0, tomk := false, torq := false, toak := toak } }
    ∀ toak : Bool, (s toak).inReset = true ∧ (s toak).trunkOut.toak = toak ∧
      (s toak).trunkIn.timk = true ∧ (s toak).trunkIn.tirq = false := by
  decide +kernel

/-! ### Witnesses: the trunk -/

/-- HUNT and DISCARD; for the tags 0, 1, 47 and 48, with storage enough and one descriptor or cell
short. -/
theorem witness_BeatOutsideAParcel :
    (Settled (onRx .hunt) ∧ (onRx .hunt).trunkIn.tirq = false ∧ (onRx .hunt).rx.state = .hunt) ∧
    (Settled (onRx .discard) ∧ (onRx .discard).rx.state = .discard) ∧
    (let s (d k : Nat) : State := { onRx .hunt with pool :=
        { State.reset.pool with freeDescriptors := d, freeCells := k } }
     (Settled (s 0 63) ∧ (s 0 63).pool.freeDescriptors = 0) ∧
      (Settled (s 1 63) ∧ 1 ≤ (s 1 63).pool.freeDescriptors) ∧
      (Settled (s 8 63) ∧ 1 + (8 - (s 8 63).pool.mgmtDescriptors) ≤ (s 8 63).pool.freeDescriptors ∧
        64 - (s 8 63).pool.mgmtCells ≤ (s 8 63).pool.freeCells) ∧
      (Settled (s 7 63) ∧ (s 7 63).pool.freeDescriptors < 1 + (8 - (s 7 63).pool.mgmtDescriptors)) ∧
      (Settled (s 8 62) ∧ (s 8 62).pool.freeCells < 64 - (s 8 62).pool.mgmtCells)) ∧
    (0 : Byte).toNat = 0 ∧ 1 ≤ (1 : Byte).toNat ∧ (47 : Byte).toNat ≤ 47 ∧ 48 ≤ (48 : Byte).toNat :=
  ⟨⟨settled rfl, rfl, rfl⟩, ⟨settled rfl, rfl⟩,
    ⟨⟨settled rfl, by decide⟩, ⟨settled rfl, by decide⟩, ⟨settled rfl, by decide +kernel⟩,
      ⟨settled rfl, by decide +kernel⟩, ⟨settled rfl, by decide +kernel⟩⟩, by decide⟩

theorem witness_LengthBeat :
    let s := onRx (.length reception)
    Settled s ∧ s.trunkIn.tirq = false ∧ s.rx.state = .length reception ∧
    (0 : Byte).toNat = 0 ∧ 1 ≤ (1 : Byte).toNat ∧ (240 : Byte).toNat ≤ 240 ∧
    241 ≤ (241 : Byte).toNat :=
  ⟨settled rfl, rfl, rfl, by decide⟩

/-- NO-STORAGE, a byte within a cell (the 32nd), and a byte that needs a cell (the 33rd), granted and
refused. -/
theorem witness_BodyBeat :
    let p (n : Nat) : Reception :=
      { reception with len := 40, count := n, stored := some (List.replicate n 0) }
    let s (n : Nat) : State := onRx (.body (p n))
    let poor : State := { s 32 with pool := { State.reset.pool with freeCells := 63 } }
    (Settled (onRx (.body { p 0 with stored := none })) ∧ { p 0 with stored := none }.stored = none) ∧
    (Settled (s 31) ∧ (s 31).trunkIn.tirq = false ∧ (s 31).rx.state = .body (p 31) ∧
      (p 31).stored = some (List.replicate 31 0) ∧ (p 31).count % 32 ≠ 0) ∧
    (Settled (s 32) ∧ (p 32).count % 32 = 0 ∧
      (s 32).claimRx 1 0 1 = some ((s 32).pool.take 0 1)) ∧
    (Settled poor ∧ poor.rx.state = .body (p 32) ∧ poor.claimRx 1 0 1 = none) :=
  ⟨⟨settled rfl, rfl⟩, ⟨settled rfl, rfl, rfl, rfl, by decide⟩,
    ⟨settled rfl, by decide, by decide +kernel⟩, ⟨settled rfl, rfl, by decide +kernel⟩⟩

/-- A check that fails; in NO-STORAGE mode a data tag, a tag of no use, and tag 0 with two body bytes
and with one. -/
theorem witness_CheckBeatOfAnUndeliveredParcel :
    let p (tag : Byte) (first : List Byte) : Reception :=
      { reception with tag := tag, stored := none, first := first }
    let s (tag : Byte) (first : List Byte) : State := onRx (.check (p tag first))
    (∀ tag first, Settled (s tag first) ∧ (s tag first).trunkIn.tirq = false ∧
      (s tag first).rx.state = .check (p tag first) ∧ (s tag first).engine.records = none) ∧
    (s 1 []).rx.sum + 1 ≠ 0 ∧ (s 1 []).rx.sum + 0 = 0 ∧ (p 1 []).stored = none ∧
    chanOf (p 1 []).tag = some 0 ∧ chanOf (p 47 []).tag = some 46 ∧ 48 ≤ (p 48 []).tag.toNat ∧
    (p 0 [1, 2]).tag = 0 ∧ (p 0 [1, 2]).first = 1 :: 2 :: [] ∧ (p 0 [1]).first.length < 2 :=
  ⟨fun _ _ => ⟨settled rfl, rfl, rfl, rfl⟩, by decide +kernel⟩

/-- The last parcel within a credit limit of 4, without a tee, and with one whose segment takes just
this entry, or has not a cell left. -/
theorem witness_GoodDataParcelAccepted :
    let p : Reception := { reception with stored := some [1, 2] }
    let l (t : Option Handle) : Link := { outLink 4 3 with tee := t }
    let g (limit : Nat) : Segment := { segment [[1]] with state := .capturing, cellLimit := limit }
    let s (t : Option Handle) (limit : Nat) : State :=
      ((onRx (.check p)).setLink 0 (some (l t))).setSegment 0 (some (g limit))
    (∀ t limit, Settled (s t limit)) ∧
    (∀ t ∈ [none, some 0], ∀ limit ∈ [1, 2], (s t limit).trunkIn.tirq = false ∧
      (s t limit).rx.state = .check p ∧ (s t limit).rx.sum + 0 = 0 ∧ chanOf p.tag = some 0 ∧
      p.stored = some [1, 2] ∧ (s t limit).link 0 = some (l t) ∧ (l t).isDraining = false ∧
      (l t).dir = .outbound 4 3 ∧ 3 + (s t limit).credit 0 < 4 ∧ (l t).tee = t ∧
      (s t limit).engine.records = none ∧ ((s t limit).lane (l t).spur).state ≠ .idleOut ∧
      ((s t limit).lane (l t).spur).state ≠ .idleIn ∧ (s t limit).segment 0 = some (g limit) ∧
      (s t limit).pool.claimOrdinary 0 1 ≠ none ∧
      (s t limit).pool.segmentCells + 1 ≤ (s t limit).store.quota) ∧
    (g 2).cellsHeld + 1 ≤ (g 2).cellLimit ∧ ¬ (g 1).cellsHeld + 1 ≤ (g 1).cellLimit :=
  ⟨fun _ _ => settled rfl, by decide +kernel⟩

theorem witness_GoodDataParcelDropped :
    let p : Reception := { reception with stored := some [1, 2] }
    let s := onRx (.check p)
    Settled s ∧ s.trunkIn.tirq = false ∧ s.rx.state = .check p ∧ s.rx.sum + 0 = 0 ∧
    chanOf p.tag = some 0 ∧ p.stored = some [1, 2] ∧ s.judge 0 = .inl .closed ∧
    s.engine.records = none :=
  ⟨settled rfl, by decide +kernel⟩

/-- Each row of the table: CLOSED, DRAINING, an IN channel, a used-up limit, and one below it. -/
theorem witness_AcceptanceTable :
    let s (l : Link) : State := State.reset.setLink 0 (some l)
    (CreditLaw State.reset ∧ State.reset.link 0 = none) ∧
    (CreditLaw (s { outLink 4 4 with phase := .draining .drain 0 0 }) ∧
      (s { outLink 4 4 with phase := .draining .drain 0 0 }).link 0 =
        some { outLink 4 4 with phase := .draining .drain 0 0 }) ∧
    (CreditLaw (s inLink) ∧ (s inLink).link 0 = some inLink ∧ inLink.phase = .opened ∧
      inLink.dir = .inbound scale) ∧
    (CreditLaw (s (outLink 4 4)) ∧ (outLink 4 4).phase = .opened ∧
      4 + (s (outLink 4 4)).credit 0 = 4) ∧
    (CreditLaw (s { outLink 4 3 with phase := .halted .stall }) ∧
      3 + (s { outLink 4 3 with phase := .halted .stall }).credit 0 ≠ 4) :=
  ⟨⟨creditLaw (by decide +kernel), by decide +kernel⟩,
    ⟨creditLaw (by decide +kernel), by decide +kernel⟩,
    ⟨creditLaw (by decide +kernel), by decide +kernel⟩,
    ⟨creditLaw (by decide +kernel), by decide +kernel⟩,
    ⟨creditLaw (by decide +kernel), by decide +kernel⟩⟩

theorem witness_DropReportReturnsCredit :
    let s := State.reset.setLink 0 (some (outLink 4 3))
    s.engine.records = none ∧ State.reset.engine.records = none ∧
    (∃ l limit k, s.link 0 = some l ∧ l.isDraining = false ∧ l.dir = .outbound limit k ∧
      k + s.credit 0 < limit) ∧
    (¬ ∃ l limit k, State.reset.link 0 = some l ∧ l.isDraining = false ∧
      l.dir = .outbound limit k ∧ k + State.reset.credit 0 < limit) :=
  ⟨rfl, rfl, ⟨outLink 4 3, 4, 3, by decide +kernel⟩, fun ⟨_, _, _, h, _⟩ => by
    have : State.reset.link 0 = none := by decide +kernel
    rw [this] at h
    cases h⟩

theorem witness_ParcelBrokenOff :
    ∀ st ∈ [RxState.length reception, .body reception, .check reception],
      Settled (onRx st) ∧ (onRx st).trunkIn.tirq = false ∧ (onRx st).rx.gapTimer = some 20 ∧
      ((onRx st).rx.state = .length reception ∨ (onRx st).rx.state = .body reception ∨
        (onRx st).rx.state = .check reception) := by
  intro st h
  refine ⟨settled rfl, rfl, rfl, ?_⟩
  simpa [onRx] using h

theorem witness_TrunkInLevels :
    let s (tirq : Bool) : State := { State.reset with
      trunkIn := { State.reset.trunkIn with tirq := tirq, tiak := tirq } }
    (Settled (s true) ∧ (s true).trunkIn.tirq = true) ∧
    (Settled (s false) ∧ (s false).trunkIn.tirq = false) :=
  ⟨⟨settled rfl, rfl⟩, ⟨settled rfl, rfl⟩⟩

/-- A break at a FIFO of 47 and of 48 records, with LOST at 0, 254 and 255. -/
theorem witness_TrunkBreakDeclared :
    ∀ k ∈ [47, 48], ∀ lost ∈ [(0 : Byte), 254, 255],
      let s : State := { State.reset with
        rx := { Receiver.fresh with state := .body reception, breakTimer := .running }
        notices := { State.reset.notices with fifo := List.replicate k .brk, lost := lost } }
      Settled s ∧ s.rx.breakTimer = .running ∧ s.engine.records = none ∧ s.engine.hold = false ∧
      (s.notices.fifo.length < 48 ∨ 48 ≤ s.notices.fifo.length) ∧ s.notices.lost = lost := by
  intro k hk lost hl
  refine ⟨settled rfl, rfl, rfl, rfl, Nat.lt_or_ge _ _, rfl⟩

/-- The first beat presented; the last beat but one acknowledged (5 body bytes make 8 beats); and the
wait after a line reset. -/
theorem witness_TrunkOutHandshake :
    let t (beat : Nat) (phase : TxPhase) : Transmission :=
      { parcel := { tag := 48, body := [0, 1, 0, 0, 1] }, beat := beat, phase := phase
        restart := false }
    (Settled (onTx 1 .presented false false) ∧
      (onTx 1 .presented false false).tx = some (t 1 .presented) ∧
      (onTx 1 .presented false false).trunkOut.toak = false) ∧
    (Settled (onTx 7 .acknowledged false true) ∧
      (onTx 7 .acknowledged false true).tx = some (t 7 .acknowledged) ∧
      (onTx 7 .acknowledged false true).trunkOut.toak = true ∧
      (t 7 .acknowledged).beat < (t 7 .acknowledged).parcel.body.length + 3) ∧
    (Settled (onTx 1 .awaitLow false true) ∧
      (onTx 1 .awaitLow false true).tx = some (t 1 .awaitLow) ∧
      (onTx 1 .awaitLow false true).trunkOut.toak = true) :=
  ⟨⟨settled rfl, rfl, rfl⟩, ⟨settled rfl, rfl, rfl, by decide⟩, ⟨settled rfl, rfl, rfl⟩⟩

/-- The eighth beat acknowledged, with nothing, a normal parcel, or a response waiting. -/
theorem witness_ParcelBoundary :
    let s := onTx 8 .acknowledged false true
    let x : Inbound := { chan := 0, body := [1] }
    (Settled s ∧ s.trunkOut.toak = true ∧ s.engine.restartDue = false ∧ s.engine.requests = [] ∧
      s.tx = some { parcel := { tag := 48, body := [0, 1, 0, 0, 1] }, beat := 5 + 3
                    phase := .acknowledged, restart := false } ∧
      s.arbiter.responses = [] ∧ s.eligible = false ∧ s.arbiter.express = [] ∧
      s.arbiter.normal = []) ∧
    (let u : State := { s with arbiter := { s.arbiter with normal := [x] } }
     Settled u ∧ u.eligible = false ∧ u.arbiter.normal = x :: []) ∧
    (let u : State := { s with arbiter := { s.arbiter with
        responses := [reply 1 0 .ok [] false] } }
     Settled u ∧ u.arbiter.responses = reply 1 0 .ok [] false :: []) :=
  ⟨⟨settled rfl, by decide +kernel⟩, ⟨settled rfl, by decide +kernel⟩, ⟨settled rfl, rfl⟩⟩

/-- One state for each row: a response; an eligible notice that did not win last, or won last with no
data, with just the storage it needs; one whose storage is refused, by a cell and by the descriptor; data
after a notice, normal alone, with the run at 8 and at 7, express alone, and nothing at all. For the
builder: no credit left, and a credit that a notice of 16 records leaves behind. -/
theorem witness_GrantOrder :
    let x : Inbound := { chan := 0, body := [1] }
    let s (a : Arbiter) (fifo : List Record) (d k : Nat) : State := { State.reset with
      tx := none, arbiter := a, notices := { State.reset.notices with fifo := fifo }
      pool := { State.reset.pool with freeDescriptors := d, freeCells := k } }
    let data (express normal : List Inbound) (run : Nat) (last : Winner) : Arbiter :=
      { responses := [], express := express, normal := normal, run := run, last := last }
    let mayWin (u : State) : Bool := u.eligible && decide (u.arbiter.last ≠ .notice ∨
      (u.arbiter.express = [] ∧ u.arbiter.normal = []))
    let fits (u : State) : Bool := decide (1 ≤ u.pool.freeDescriptors ∧
      cellsFor u.notices.nextBody.length ≤ u.pool.freeCells)
    (∀ a fifo d k, (s a fifo d k).tx = none ∧ (s a fifo d k).engine.restartDue = false) ∧
    (let r := reply 1 0 .ok [] false
     (s { Arbiter.fresh with responses := [r] } [] 0 0).arbiter.responses = r :: []) ∧
    (∀ express normal run last, (data express normal run last).responses = []) ∧
    (∀ a ∈ [data [x] [x] 0 .none, data [] [] 0 .notice],
      mayWin (s a [.brk] 1 1) = true ∧ fits (s a [.brk] 1 1) = true ∧
      mayWin (s a [.brk] 1 0) = true ∧ fits (s a [.brk] 1 0) = false ∧
      mayWin (s a [.brk] 0 1) = true ∧ fits (s a [.brk] 0 1) = false) ∧
    (∀ u ∈ [([x], 8), ([x], 7), ([], 0)], mayWin (s (data u.1 [x] u.2 .notice) [.brk] 1 1) = false ∧
      mayWin (s (data u.1 [x] u.2 .normal) [] 1 1) = false) ∧
    mayWin (s (data [x] [] 7 .express) [] 1 1) = false ∧
    mayWin (s (data [] [] 0 .none) [] 1 1) = false ∧
    (let nb (k : Nat) : Notices := { State.reset.notices with
       credits := Vector.replicate 47 k, fifo := [.brk], lost := 255 }
     (∀ c : Chan, (nb 0).assembled.credits[c.val] = 0) ∧
     (nb 1).assembled.credits[(46 : Chan).val] ≠ 0 ∧ (nb 1).assembled.fifo = [.brk]) :=
  ⟨fun _ _ _ _ => ⟨rfl, rfl⟩, rfl, fun _ _ _ _ => rfl, by decide +kernel, by decide +kernel,
    by decide +kernel, by decide +kernel, by decide +kernel⟩

/-- Each way of being eligible on its own, at its boundary, and none: a record; LOST at 1; a count of 1 at
the limits 2 and 3; and one below its half limit with the hold-off timer EXPIRED. -/
theorem witness_GrantOrder_eligible :
    let s (fifo : List Record) (lost : Byte) (k limit : Nat) (timer : HoldOff) : State :=
      { State.reset.setLink 0 (some (outLink limit 0)) with notices := { State.reset.notices with
        fifo := fifo, lost := lost, timer := timer
        credits := (Vector.replicate 47 0).set 0 k } }
    (s [.brk] 0 0 1 .stopped).eligible = true ∧ (s [] 1 0 1 .stopped).eligible = true ∧
    (s [] 0 1 2 .stopped).eligible = true ∧ (s [] 0 1 3 .stopped).eligible = false ∧
    (s [] 0 1 3 .expired).eligible = true ∧ (s [] 0 0 3 .expired).eligible = false := by
  decide +kernel

/-! ### Witnesses: requests -/

theorem witness_MalformedRequests :
    let c : Instr := .identify 7 [0]
    Settled State.reset ∧ WellFormed c = true ∧ c.requestBody = some (1 :: 7 :: [0]) ∧
    Ready State.reset 1 7 [(0 : Byte)].length 0 ∧ wrongParams (1 : Byte).toNat [0] = true :=
  ⟨settled rfl, rfl, rfl, ready (by decide +kernel), by decide⟩

theorem witness_RefusedRequestsChangeNothing :
    let c : Instr := .setTrunk 7 [0, 0]
    let x := executeRequest 5 [0, 0] (State.reset.executing 5 7 [0, 0])
    Settled State.reset ∧ WellFormed c = true ∧ c.requestBody = some (5 :: 7 :: [0, 0]) ∧
    Ready State.reset 5 7 [(0 : Byte), 0].length 0 ∧ x.status ≠ .ok ∧ x.status ≠ .accepted :=
  ⟨settled rfl, rfl, rfl, ready (by decide +kernel), by decide +kernel⟩

/-- Three responses wait, and the pool holds just what the copy needs. -/
theorem witness_RepeatedRequestAnsweredAgain :
    let a : Answer := { code := 12, seq := 21, status := .ok, results := [] }
    let s : State := { State.reset with
      arbiter := { State.reset.arbiter with responses := List.replicate 3 (reply 1 0 .ok [] false) }
      pool := { State.reset.pool with freeDescriptors := 1, freeCells := 1 }
      engine := { Engine.fresh with remembered := some a } }
    Settled s ∧ paramsFit [6] = true ∧ s.engine.requests = [] ∧ s.engine.hold = false ∧
    s.engine.records = none ∧ s.arbiter.responses.length < 4 ∧ s.engine.remembered = some a ∧
    a.code = 12 ∧ a.seq = 21 ∧ 1 ≤ s.pool.freeDescriptors ∧
    cellsFor ([(6 : Byte)].length + 2) ≤ s.pool.freeCells ∧
    cellsFor (a.results.length + 3) ≤ s.pool.freeCells :=
  ⟨settled rfl, by decide +kernel⟩

/-- The arrival of a request: of 0 bytes and of 1; a duplicate among 4; a fifth of another sequence; a
fourth in the restart hold, and one with 4 responses queued; and one at an idle engine. -/
theorem witness_RepeatedRequestAnsweredAgain_arrival :
    let held : Request := { code := 1, seq := 7, params := [], discard := false }
    let s (body : List Byte) (k m : Nat) (hold : Bool) : State := { State.reset with
      rx := { Receiver.fresh with
        state := .check { reception with tag := 0, stored := some body }, sum := 0xF0 }
      pool := { State.reset.pool with mgmtDescriptors := 1, mgmtCells := 1 }
      arbiter := { State.reset.arbiter with
        responses := List.replicate m (reply 1 0 .ok [] false) }
      engine := { Engine.fresh with requests := List.replicate k held, hold := hold } }
    (∀ body k m hold, Settled (s body k m hold) ∧ (s body k m hold).trunkIn.tirq = false ∧
      (s body k m hold).rx.state = .check { reception with tag := 0, stored := some body } ∧
      (s body k m hold).rx.sum + 0x10 = 0 ∧ (s body k m hold).engine.records = none) ∧
    ([] : List Byte).length < 2 ∧ [(1 : Byte)].length < 2 ∧
    (∃ r ∈ (s [9, 7] 4 0 false).engine.requests, r.seq = 7) ∧
    ((∀ r ∈ (s [9, 8] 4 0 false).engine.requests, r.seq ≠ 8) ∧
      4 ≤ (s [9, 8] 4 0 false).engine.requests.length) ∧
    ((∀ r ∈ (s [9, 8] 3 0 true).engine.requests, r.seq ≠ 8) ∧
      (s [9, 8] 3 0 true).engine.requests.length < 4 ∧ (s [9, 8] 3 0 true).engine.hold = true) ∧
    ((s [1, 8] 0 4 false).engine.requests = [] ∧ 4 ≤ (s [1, 8] 0 4 false).arbiter.responses.length) ∧
    (WellFormed (.identify 8 []) = true ∧ (Instr.identify 8 []).requestBody = some [1, 8] ∧
      1 ≤ (s [1, 8] 0 0 false).pool.mgmtDescriptors ∧
      cellsFor [(1 : Byte), 8].length ≤ (s [1, 8] 0 0 false).pool.mgmtCells) :=
  ⟨fun _ _ _ _ => ⟨settled rfl, rfl, rfl,
      (by decide : (0xF0 : Byte) + 0x10 = 0), rfl⟩, by decide, by decide, by decide +kernel,
    by decide +kernel, by decide +kernel, by decide +kernel, by decide +kernel⟩

theorem witness_IdentifyAnswer : Settled State.reset ∧ Ready State.reset 1 7 0 15 :=
  ⟨settled rfl, ready (by decide +kernel)⟩

theorem witness_StatusAndSpurRead :
    Settled State.reset ∧ Ready State.reset 2 0 0 40 ∧ Ready State.reset 9 255 1 11 :=
  ⟨settled rfl, ready (by decide +kernel), ready (by decide +kernel)⟩

theorem witness_ResetCountersZeroes : Settled State.reset ∧ Ready State.reset 3 0 0 0 :=
  ⟨settled rfl, ready (by decide +kernel)⟩

/-- A RESTART as the fourth response, and the last beat of its response. -/
theorem witness_RestartHoldsAndTakesEffect :
    (let s : State := { State.reset with arbiter := { State.reset.arbiter with
       responses := List.replicate 3 (reply 1 0 .ok [] false) } }
     Settled s ∧ Ready s 4 0 0 0) ∧
    (let s : State := { onTx 8 .acknowledged true true with
       pool := { State.reset.pool with freeCells := 511, segmentCells := 1536 } }
     Settled s ∧ s.trunkOut.toak = true ∧ s.pool.segmentCells ≤ 1536 ∧
     s.tx = some { parcel := { tag := 48, body := [0, 1, 0, 0, 1] }, beat := 5 + 3
                   phase := .acknowledged, restart := true }) :=
  ⟨⟨settled rfl, ready (by decide +kernel)⟩, settled rfl, by decide +kernel⟩

/-- Quotas of 0, 1536 and 1537, and one below what the segments hold. -/
theorem witness_SettingsReplaced :
    Settled State.reset ∧ Ready State.reset 5 0 2 2 ∧ Ready State.reset 23 0 2 2 ∧
    (1 : Byte) ≠ 0 ∧ State.reset.pool.segmentCells ≤ (0 : Byte).toNat * 256 + (0 : Byte).toNat ∧
    (6 : Byte).toNat * 256 + (0 : Byte).toNat ≤ 1536 ∧
    1536 < (6 : Byte).toNat * 256 + (1 : Byte).toNat ∧
    (let s : State := { State.reset with
       pool := { State.reset.pool with freeCells := 2046, segmentCells := 1 } }
     Settled s ∧ Ready s 23 0 2 2 ∧
     (0 : Byte).toNat * 256 + (0 : Byte).toNat < s.pool.segmentCells) :=
  ⟨settled rfl, ready (by decide +kernel), ready (by decide +kernel), by decide, by decide,
    by decide, by decide, settled rfl, ready (by decide +kernel), by decide⟩

/-- No lane that takes beats; and lanes that keep their snapshot over a gather, in a beat, and for a
channel that names another profile. -/
theorem witness_SetProfileReplaces :
    Settled State.reset ∧ Ready State.reset 6 0 8 0 ∧
    (∀ n : Spur, (State.reset.lane n).inSnap = none) ∧
    (0 : Byte) = BitVec.ofNat 8 (0 : ProfileNo).val ∧
    (7 : Byte) = BitVec.ofNat 8 (7 : ProfileNo).val ∧ (1 : Byte) ≠ 0 ∧
    ¬ ((0 : Byte) = 0 ∧ (1 : Byte) = 0) ∧ 8 ≤ (8 : Byte).toNat ∧ 4 ≤ (4 : Byte).toNat ∧
    (let s := (onLane { lane with state := .idleIn, inSnap := some gated }).setLink 0 (some inLink)
     Settled s ∧ Ready s 6 0 8 0 ∧ ((s.setGather 0 { s.gather 0 with
       state := .losing 0 }).gather 0).state ≠ .empty ∧
     s.openIn 0 = some 0 ∧ s.link 0 = some inLink ∧ inLink.profile ≠ 1) :=
  ⟨settled rfl, ready (by decide +kernel), by decide +kernel, rfl, rfl, by decide, by decide, by decide,
    by decide, settled rfl, ready (by decide +kernel), by decide +kernel⟩

/-- A lane that takes the new values up, from each discipline, with SnRDY at READY and at BUSY, its offer,
schedule and reference as they stand then, and no other lane taking beats. -/
theorem witness_SetProfileReplaces_taken :
    ∀ d ∈ [Discipline.interlock, .gated, .paced, .toggle], ∀ r : Bool,
      let old : Profile := { Profile.default with discipline := d }
      let s := (onLane { lane with
        state := .idleIn, inSnap := some old, ready := r, offer := r, pulses := .running
        reference := some r }).setLink 0 (some inLink)
      Settled s ∧ Ready s 6 0 8 0 ∧ (∀ m : Spur, m ≠ 0 → (s.lane m).inSnap = none) ∧
      (s.lane 0).inSnap = some old ∧ (s.lane 0).state = .idleIn ∧ (s.gather 0).state = .empty ∧
      (s.lane 0).receiving = none ∧ s.openIn 0 = some 0 ∧ s.link 0 = some inLink ∧
      inLink.profile = 0 ∧ (s.lane 0).ready = r ∧ (s.lane 0).offer = r ∧
      (s.lane 0).pulses = .running ∧ (s.lane 0).reference = some r := by
  intro d hd r
  refine ⟨settled rfl, ready ?_, ?_⟩ <;> revert d r <;> decide +kernel

theorem witness_ReadProfileAnswer :
    Settled State.reset ∧ Ready State.reset 7 0 1 8 ∧ ([] : List Byte).length ≠ 1 ∧
    7 < (8 : Byte).toNat :=
  ⟨settled rfl, ready (by decide +kernel), by decide⟩

/-- A guard and a yield of 1: settings alone, enabling in each home direction, disabling, and a spur
that a channel uses. -/
theorem witness_SetSpurConfigures :
    let cfg (enable : Bool) (home : Facing) : SpurConfig :=
      { enable := enable, home := home, guard := 1, attention := .honor, yield := 1 }
    let on := onLane { lane with config := cfg true .outward, state := .turnOut }
    let used := on.setLink 0 (some (outLink 4 0))
    (∀ e h, (cfg e h).guard ≠ 0 ∧ (cfg e h).yield ≠ 0) ∧
    (Settled on ∧ Ready on 8 0 6 5 ∧ (on.lane 0).config.enable = (cfg true .inward).enable ∧
      (on.lane 0).state ≠ .idleOut ∧ (on.lane 0).state ≠ .idleIn) ∧
    (Settled State.reset ∧ Ready State.reset 8 0 6 5 ∧
      (State.reset.lane 0).config.enable = false ∧ State.reset.queue 0 = []) ∧
    ((on.lane 0).config.enable = true ∧ (cfg false .outward).enable = false ∧
      on.spurUsed 0 = false) ∧
    (Settled used ∧ Ready used 8 0 6 5 ∧ used.spurUsed 0 = true) :=
  ⟨fun _ _ => ⟨(by decide : (1 : Byte) ≠ 0), (by decide : (1 : Byte) ≠ 0)⟩,
    ⟨settled rfl, ready (by decide +kernel), by decide +kernel⟩,
    ⟨settled rfl, ready (by decide +kernel), by decide +kernel⟩, by decide +kernel,
    settled rfl, ready (by decide +kernel), by decide +kernel⟩

/-! ### Witnesses: channels -/

/-- A credit limit of 15 that brings the spur's sum to 30, and one that passes it; each kind of tee; a
gather count of 240; a spur with an IN channel; a channel not CLOSED and a disabled spur. -/
theorem witness_OpenChannelOpens :
    let on (enable : Bool) : State := onLane { lane with
      config := { SpurConfig.default with enable := enable }, state := .turnOut }
    let s := (on true).setLink 46 (some (outLink 15 0))
    let full := s.setLink 45 (some (outLink 1 0))
    let taken := (on true).setLink 46 (some inLink)
    let teed (st : SegState) : State := s.setSegment 0 (some { segment [] with state := st })
    (Settled s ∧ Ready s 10 0 11 0 ∧ s.link 0 = none ∧ (s.lane 0).config.enable = true ∧
      (s.lane 0).state ≠ .idleOut ∧ (s.lane 0).state ≠ .idleIn ∧ 1 ≤ (1 : Byte).toNat ∧
      (15 : Byte).toNat ≤ 15 ∧ (15 : Byte).toNat + s.creditSum 0 ≤ 30 ∧ s.segment 0 = none ∧
      1 ≤ (1 : Byte).toNat ∧ (240 : Byte).toNat ≤ 240 ∧ (2 : Byte).toNat ≤ 2 ∧
      s.inChan 0 = none ∧ s.link 46 ≠ none) ∧
    (Settled full ∧ Ready full 10 0 11 0 ∧ full.link 0 = none ∧
      (full.lane 0).config.enable = true ∧ 30 < (15 : Byte).toNat + full.creditSum 0) ∧
    (Settled taken ∧ Ready taken 10 0 11 0 ∧ taken.link 0 = none ∧
      (taken.lane 0).config.enable = true ∧ taken.inChan 0 ≠ none) ∧
    (Settled (on false) ∧ Ready (on false) 10 0 11 0 ∧ ((on false).lane 0).config.enable = false) ∧
    (∀ st, Settled (teed st) ∧ (teed st).segment 0 = some { segment [] with state := st }) ∧
    Ready (teed .ready) 10 0 11 0 ∧ Ready (teed .playing) 10 0 11 0 ∧ SegState.playing ≠ .ready :=
  ⟨⟨settled rfl, ready (by decide +kernel), by decide +kernel⟩,
    ⟨settled rfl, ready (by decide +kernel), by decide +kernel⟩,
    ⟨settled rfl, ready (by decide +kernel), by decide +kernel⟩,
    ⟨settled rfl, ready (by decide +kernel), by decide +kernel⟩,
    fun st => ⟨settled rfl, by cases st <;> decide +kernel⟩,
    ready (by decide +kernel), ready (by decide +kernel), by decide⟩

/-- An OUT channel: CLOSED; DRAINING under DRAIN and under DISCARD; OPEN and HALTED with a parcel on the
lane, alone or with another behind a different channel's; and OPEN with nothing left. -/
theorem witness_CloseChannelDrains :
    let x : Sending := { parcel := hostParcel [1, 2], snap := Profile.default, done := 1
                         phase := .waitReady, ackTimer := none }
    let other : Outbound := { chan := 7, origin := .host, body := [9] }
    let busy (ph : Phase) (q : List Outbound) : State := ((onLane { lane with
      state := .sending, sending := some x }).setLink 0 (some { outLink 4 2 with phase := ph
        })).setQueue 0 q
    let still := (onLane { lane with state := .turnIn }).setLink 0 (some (outLink 4 0))
    (Settled State.reset ∧ Ready State.reset 11 0 2 0 ∧ State.reset.link 0 = none) ∧
    (∀ ph q, Settled (busy ph q)) ∧
    (∀ q ∈ [[], [other, hostParcel [3]]], ∀ ph ∈ [Phase.opened, .halted .host, .draining .drain 0 255,
        .draining .discard 0 0],
      (busy ph q).link 0 = some { outLink 4 2 with phase := ph } ∧ (busy ph q).contextOf 0 = none ∧
      (busy ph q).queue 0 = q ∧ ((busy ph q).lane 0).state = .sending ∧
      ((busy ph q).lane 0).sending = some x ∧ x.parcel.chan = 0) ∧
    Ready (busy .opened []) 11 0 2 0 ∧ Ready (busy (.draining .drain 0 255) [other]) 11 0 2 0 ∧
    (Settled still ∧ Ready still 11 0 2 0 ∧ still.link 0 = some (outLink 4 0) ∧
      still.contextOf 0 = none ∧ still.queue 0 = [] ∧ (still.lane 0).state = .turnIn ∧
      (still.lane 0).sending = none ∧ still.notices.fifo.length < 48) :=
  ⟨⟨settled rfl, ready (by decide +kernel), by decide +kernel⟩, fun _ _ => settled rfl,
    by decide +kernel, ready (by decide +kernel), ready (by decide +kernel), settled rfl,
    ready (by decide +kernel), by decide +kernel⟩

/-- An IN channel that holds one byte of either class, in IDLE_IN and in a beat, with room for one
record and for one parcel in the data queues. -/
theorem witness_CloseChannelDrains_inbound :
    let b : Receiving := { disc := .interlock, ackLimit := 0, phase := .returning, byte := some 1
                           tests := true, term := false, ackTimer := none }
    let s (cls : DataClass) (st : LaneState) (r : Option Receiving) : State :=
      let u := ((onLane { lane with state := st, receiving := r, inSnap := some Profile.default
                          }).setLink 0 (some inLink)).setGather 0
        { Gather.fresh with state := .filling 0 cls [1] }
      { u with notices := { u.notices with fifo := List.replicate 47 .brk }
               arbiter := { u.arbiter with
                 express := List.replicate 47 { chan := 1, body := [1] } } }
    (∀ cls st r, Settled (s cls st r)) ∧
    (∀ cls ∈ [DataClass.normal, .express], ∀ u ∈ [s cls .idleIn none, s cls .receiving (some b)],
      u.link 0 = some inLink ∧ inLink.dir = .inbound scale ∧ u.inChan 0 = some 0 ∧
      inLink.phase = .opened ∧ inLink.tee = none ∧ (u.lane 0).sending = none ∧
      u.contextOf 0 = none ∧ (∀ e ∈ u.queue 0, e.chan ≠ 0) ∧
      (u.gather 0).state = .filling 0 cls [1] ∧ (u.gather 0).waiting = none ∧
      ([1] : List Byte) ≠ [] ∧ u.arbiter.express.length + u.arbiter.normal.length < 48 ∧
      (∀ y ∈ u.arbiter.express ++ u.arbiter.normal, y.chan ≠ 0) ∧ u.notices.fifo.length < 48) ∧
    ((s .normal .idleIn none).lane 0).state = .idleIn ∧
    ((s .normal .idleIn none).lane 0).receiving = none ∧
    ((s .normal .receiving (some b)).lane 0).state = .receiving ∧
    ((s .normal .receiving (some b)).lane 0).receiving = some b ∧ b.phase ≠ .held ∧
    Ready (s .normal .idleIn none) 11 0 2 0 ∧ Ready (s .normal .receiving (some b)) 11 0 2 0 :=
  ⟨fun _ _ _ => settled rfl, by decide +kernel, by decide +kernel, by decide +kernel,
    by decide +kernel, by decide +kernel, by decide, ready (by decide +kernel),
    ready (by decide +kernel)⟩

/-- Neither OPEN nor HALTED; and an OPEN OUT channel that no playback plays onto. -/
theorem witness_HaltAndResume :
    let s := State.reset.setLink 0 (some (outLink 4 0))
    (Settled State.reset ∧ Ready State.reset 12 0 1 0 ∧ Ready State.reset 13 0 1 0 ∧
      ¬ (∃ l, State.reset.link 0 = some l ∧ l.phase = .opened) ∧
      ¬ (∃ l why, State.reset.link 0 = some l ∧ l.phase = .halted why)) ∧
    (Settled s ∧ Ready s 12 0 1 0 ∧ s.link 0 = some (outLink 4 0) ∧ (outLink 4 0).phase = .opened ∧
      (outLink 4 0).isIn = false ∧ (s.lane (outLink 4 0).spur).state ≠ .idleOut ∧
      (s.lane (outLink 4 0).spur).state ≠ .idleIn ∧ s.contextOf 0 = none) :=
  ⟨⟨settled rfl, ready (by decide +kernel), ready (by decide +kernel), by
      have h0 : State.reset.link 0 = none := by decide +kernel
      simp [h0]⟩, settled rfl, ready (by decide +kernel), by decide +kernel⟩

/-- The halt of an IN channel with its gather EMPTY, FILLING with 1 byte and LOSING with none, between
beats in IDLE_IN and in a beat of each kind that is not held. -/
theorem witness_HaltAndResume_inbound :
    let b (phase : InPhase) : Receiving :=
      { disc := .interlock, ackLimit := 0, phase := phase, byte := some 0, tests := true, term := false
        ackTimer := none }
    ∀ g ∈ [GatherState.empty, .filling 0 .express [1], .losing 0],
      ∀ r ∈ [none, some (b .returning), some (b .strobe), some (b .pulse)],
        let s := ((onLane { lane with
          state := if r = none then .idleIn else .receiving, receiving := r
          inSnap := some Profile.default }).setLink 0 (some inLink)).setGather 0
            { Gather.fresh with state := g }
        Settled s ∧ Ready s 12 0 1 0 ∧ s.link 0 = some inLink ∧ inLink.phase = .opened ∧
        inLink.isIn = true ∧ s.inChan inLink.spur = some 0 ∧ (s.lane 0).state ≠ .idleOut ∧
        (s.gather 0).waiting = none ∧ (s.lane 0).receiving = r ∧ (s.gather 0).state = g ∧
        (s.lane 0).receiving.all (fun x => decide (x.phase ≠ .held)) = true := by
  intro b g hg r hr
  refine ⟨settled rfl, ready ?_, ?_⟩ <;> revert g r <;> decide +kernel

/-- The halt and the resume of a channel onto which context 4 plays, in each of its states; a PAUSED one
resumes with 2 parcels out, with its spacing running, and with its spacing elapsed and 1 parcel out, before
its second entry of 3, with a pool that grants its claim and one that is a cell short. -/
theorem witness_HaltAndResume_playback :
    let g : Segment := { segment [[1], [2], [3]] with state := .playing }
    let s (halted : Bool) (ph : PlayPhase) (count : Nat) (timer : Spacing) (cells : Nat) :
        State :=
      let u := (((onLane { lane with state := .sending }).setLink 0 (some { outLink 4 0 with
        phase := if halted then .halted .host else .opened })).setSegment 0 (some g)).setContext 3
          (some { playback count timer with phase := ph })
      { u with pool := { u.pool with freeCells := cells } }
    (∀ h ph count timer cells, Settled (s h ph count timer cells)) ∧
    (∀ h ∈ [false, true], ∀ ph ∈ [PlayPhase.active, .waiting, .paused, .ending], ∀ count ∈ [0, 1, 2],
      ∀ timer ∈ [Spacing.running, .elapsed], ∀ cells ∈ [63, 64],
        let u := s h ph count timer cells
        u.contextOf 0 = some 3 ∧ u.context 3 = some { playback count timer with phase := ph } ∧
        u.link 0 = some { outLink 4 0 with phase := if h then .halted .host else .opened } ∧
        (u.lane 0).state ≠ .idleOut ∧ (u.lane 0).state ≠ .idleIn ∧
        (playback count timer).spur = 0 ∧ (playback count timer).spacing ≠ 0 ∧
        u.segment (playback count timer).handle = some g ∧ 1 ≤ (playback count timer).next ∧
        g.entries[(playback count timer).next - 1]? = some [2] ∧
        (playback count timer).next + 1 ≤ g.entries.length) ∧
    cellsFor [(2 : Byte)].length = 1 ∧ Ready (s false .active 0 .running 64) 12 0 1 0 ∧
    Ready (s true .paused 1 .elapsed 64) 13 0 1 0 ∧
    Ready (s true .paused 1 .elapsed 63) 13 0 1 0 ∧
    (((s true .paused 1 .elapsed 64).pool.holding 3).claimOrdinary 1 1).isSome = true ∧
    ((s true .paused 1 .elapsed 63).pool.holding 3).claimOrdinary 1 1 = none :=
  ⟨fun _ _ _ _ _ => settled rfl, by decide +kernel, rfl, ready (by decide +kernel),
    ready (by decide +kernel), ready (by decide +kernel), by decide +kernel, by decide +kernel⟩

/-- A CLOSED entry, an OUT and an IN one, and channel numbers 0 and 48. -/
theorem witness_ReadChannelAnswer :
    ([] : List Byte).length ≠ 1 ∧ (0 : Byte).toNat = 0 ∧ 47 < (48 : Byte).toNat ∧
    State.reset.link 46 = none ∧
    (State.reset.setLink 0 (some (outLink 15 2))).link 0 = some (outLink 15 2) ∧
    (outLink 15 2).dir = .outbound 15 2 ∧
    (State.reset.setLink 0 (some inLink)).link 0 = some inLink ∧ inLink.dir = .inbound scale ∧
    Settled State.reset ∧ Ready State.reset 14 0 1 28 :=
  ⟨by decide, by decide, by decide, by decide +kernel, by decide +kernel, rfl, by decide +kernel, rfl,
    settled rfl, ready (by decide +kernel)⟩

/-- No tee, a tee kept, dropped, moved to a READY and to a PLAYING segment, and to none. -/
theorem witness_SetTeeBinds :
    let l (t : Option Handle) : Link := { outLink 4 0 with tee := t }
    let s (t : Option Handle) (st : SegState) : State :=
      ((State.reset.setLink 0 (some (l t))).setSegment 0 (some (segment []))).setSegment 15
        (some { segment [] with state := st })
    (∀ t st, Settled (s t st)) ∧
    (∀ t ∈ [none, some 0], ∀ st ∈ [SegState.ready, .playing], (s t st).link 0 = some (l t) ∧
      (l t).isDraining = false ∧ (l t).tee = t ∧ (s t st).segment 0 = some (segment []) ∧
      (s t st).segment 15 = some { segment [] with state := st } ∧ (s t st).segment 7 = none) ∧
    (15 : Handle) ≠ 0 ∧ (segment []).state = .ready ∧ Ready (s none .ready) 15 0 2 1 ∧
    Ready (s (some 0) .playing) 15 0 2 1 :=
  ⟨fun _ _ => settled rfl, by decide +kernel, by decide, rfl, ready (by decide +kernel),
    ready (by decide +kernel)⟩

/-! ### Witnesses: segments and playback -/

/-- The least and the greatest cell limit, a label of 8 with the ends of the printable range, the
lowest and the highest handle free, and none free; a READY, a PLAYING and no segment. -/
theorem witness_SegmentsCreatedAndDeleted :
    let label : List Byte := [0x20, 0x7E, 0x20, 0x7E, 0x20, 0x7E, 0x20, 0x7E]
    let full (n : Nat) : State := { State.reset with store := { Store.fresh with
      segments := Vector.ofFn fun (i : Fin 16) => if i.val < n then some (segment []) else none } }
    (∀ n, Settled (full n)) ∧ Ready (full 0) 16 0 (3 + label.length) 1 ∧
    Ready (full 15) 16 0 (3 + label.length) 1 ∧ Ready (full 16) 16 0 (3 + label.length) 1 ∧
    1 ≤ wordOf 0 1 ∧ wordOf 6 0 ≤ 1536 ∧ label.length ≤ 8 ∧
    (∀ b ∈ label, 0x20 ≤ b.toNat ∧ b.toNat ≤ 0x7E) ∧
    ((full 0).segment 0 = none ∧ (∀ k : Handle, k < 0 → (full 0).segment k ≠ none)) ∧
    ((full 15).segment 15 = none ∧ (∀ k : Handle, k < 15 → (full 15).segment k ≠ none)) ∧
    (∀ k : Handle, (full 16).segment k ≠ none) ∧
    Ready (full 16) 19 0 1 2 ∧ (full 16).segment 15 = some (segment []) ∧
    (let s := State.reset.setSegment 0 (some { segment [] with state := .playing })
     Settled s ∧ Ready s 19 0 1 2 ∧
     s.segment 0 = some { segment [] with state := .playing } ∧ s.segment 15 = none) :=
  ⟨fun _ => settled rfl, ready (by decide +kernel), ready (by decide +kernel),
    ready (by decide +kernel), by decide, by decide, by decide, by decide, by decide +kernel,
    by decide +kernel, by decide +kernel, ready (by decide +kernel), by decide +kernel, settled rfl,
    ready (by decide +kernel), by decide +kernel⟩

/-- The longest data into a segment that it just fits, and into one that is a cell short. -/
theorem witness_WriteSegmentAppends :
    let data : List Byte := List.replicate 237 0
    let g (limit : Nat) : Segment := { segment [] with cellLimit := limit }
    let s (limit : Nat) : State := State.reset.setSegment 0 (some (g limit))
    let fits (limit : Nat) : Bool := decide ((g limit).entries.length < 255) &&
      decide ((g limit).cellsHeld + cellsFor data.length ≤ (g limit).cellLimit) &&
      decide ((s limit).pool.segmentCells + cellsFor data.length ≤ (s limit).store.quota) &&
      decide (((s limit).pool.holding (data.length + 3)).claimOrdinary 0 (cellsFor data.length) ≠
        none)
    (∀ n, Settled (s n)) ∧ Ready (s 8) 17 0 (data.length + 1) 3 ∧
    Ready (s 7) 17 0 (data.length + 1) 3 ∧ data.length ≤ 237 ∧
    (∀ n ∈ [7, 8], (s n).segment 0 = some (g n) ∧ (g n).state = .ready) ∧ fits 8 = true ∧
    fits 7 = false :=
  ⟨fun _ => settled rfl, ready (by decide +kernel), ready (by decide +kernel), by decide +kernel,
    by decide +kernel, by decide +kernel, by decide +kernel⟩

/-- The details alone; the last entry from its first byte and from its end; an index past it, an offset
one past its end, and an offset without an entry. -/
theorem witness_ReadSegmentAnswer :
    let g := segment [[1, 2], [3, 4, 5]]
    let s := State.reset.setSegment 0 (some g)
    Settled s ∧ Ready s 18 0 3 210 ∧ s.segment 0 = some g ∧ (2 : Byte).toNat = 1 + 1 ∧
    g.entries[1]? = some [3, 4, 5] ∧ (0 : Byte).toNat ≤ [(3 : Byte), 4, 5].length ∧
    (3 : Byte).toNat ≤ [(3 : Byte), 4, 5].length ∧ g.entries.length < (3 : Byte).toNat ∧
    [(3 : Byte), 4, 5].length < (4 : Byte).toNat ∧ (1 : Byte) ≠ 0 :=
  ⟨settled rfl, ready (by decide +kernel), by decide +kernel⟩

/-- All 16 handles in use, with labels of 8 bytes. -/
theorem witness_ListSegmentsAnswer :
    let g : Segment := { segment [] with label := List.replicate 8 0x41 }
    let s : State := { State.reset with
      store := { Store.fresh with segments := Vector.replicate 16 (some g) } }
    Settled s ∧ (∀ h x, s.segment h = some x → x.label.length ≤ 8) ∧
    Ready s 20 0 0 (1 + 14 * ((List.finRange 16).filter fun h => (s.segment h).isSome).length) :=
  ⟨settled rfl, fun h x e => of_decide_eq_true (everySegment
      (p := fun x => decide (x.label.length ≤ 8)) (by decide +kernel) h x e),
    ready (by decide +kernel)⟩

theorem witness_PlaySegmentStarts :
    let g := segment [[1], [2]]
    let s := ((onLane { lane with state := .sending }).setLink 0 (some (outLink 4 0))).setSegment 0
      (some g)
    Settled s ∧ Ready s 21 0 4 0 ∧ s.segment 0 = some g ∧ g.state = .ready ∧
    g.entries = [1] :: [2] :: [] ∧ s.link 0 = some (outLink 4 0) ∧ (outLink 4 0).phase = .opened ∧
    (outLink 4 0).dir = .outbound 4 0 ∧ (s.lane (outLink 4 0).spur).state = .sending ∧
    (∀ i, s.context i = none) ∧ s.strayPlayback (outLink 4 0).spur = false ∧ (1 : Byte) ≠ 0 ∧
    (s.pool.holding 6).claimOrdinary 1 (cellsFor 1) ≠ none :=
  ⟨settled rfl, ready (by decide +kernel), by decide +kernel⟩

/-- The reset state with that context as the last one, its channel OPEN and its spur SENDING. -/
def playing (count : Nat) : State :=
  (((onLane { lane with state := .sending }).setLink 0 (some (outLink 4 0))).setSegment 0
    (some { segment [[1], [2], [3]] with state := .playing })).setContext 3
      (some (playback count .running))

theorem witness_StopPlayEnds :
    let s := playing 2
    let p := playback 2 .running
    Settled s ∧ Ready s 22 0 1 2 ∧ s.contextOf 0 = some 3 ∧ s.context 3 = some p ∧ p.chan = 0 ∧
    s.segment p.handle = some { segment [[1], [2], [3]] with state := .playing } ∧
    (s.lane p.spur).state = .sending ∧ s.notices.fifo.length < 48 :=
  ⟨settled rfl, ready (by decide +kernel), by decide +kernel⟩

/-! ### Witnesses: spurs -/

/-- A lane that sends the first of two bytes, at a phase of its beat under a discipline. -/
def sends (d : Discipline) (ph : OutPhase) : Sending :=
  { parcel := hostParcel [1, 2], snap := { Profile.default with discipline := d }, done := 0
    phase := ph, ackTimer := some 1000 }

/-- The reset state with that lane, its ready level as given and, for TOGGLE, its reference. -/
def sending (d : Discipline) (ph : OutPhase) (ready : Bool) : State :=
  onLane { lane with state := .sending, ready := ready, sending := some (sends d ph)
                     reference := some ready }

theorem witness_ReadyWhileSending :
    (∀ d ph r, Settled (sending d ph r)) ∧
    (∀ d ∈ [Discipline.interlock, .gated, .toggle],
      ∀ ph ∈ [OutPhase.waitReady, .waitBusy, .waitReturn, .waitToggle], ∀ r : Bool,
        ((sending d ph r).lane 0).state = .sending ∧
        ((sending d ph r).lane 0).sending = some (sends d ph) ∧ (sends d ph).snap.setup ≠ 0 ∧
        (sends d ph).phase = ph ∧ (sends d ph).snap.discipline = d ∧
        ((sending d ph r).lane 0).ready = r ∧ ((sending d ph r).lane 0).reference = some r ∧
        (sends d ph).done + 1 < (sends d ph).parcel.body.length) :=
  ⟨fun _ _ _ => settled rfl, by decide +kernel⟩

/-- The four disciplines, and the parcels that end here. -/
def disciplines : List Discipline := [.interlock, .gated, .paced, .toggle]

/-- A one-byte parcel of the context that plays onto channel 1. -/
def played : Outbound := { hostParcel [1] with origin := .playback (some 3) }

/-- The last beat of a parcel, at the moment before it ends. -/
def lastBeat (d : Discipline) (e : Outbound) : Sending :=
  { parcel := e, snap := { Profile.default with discipline := d }, done := e.body.length - 1
    phase := match d with
      | .interlock => .waitReturn | .gated => .strobe | .paced => .pulse true false
      | .toggle => .waitToggle
    ackTimer := none }

/-- The command that ends it on spur 0, SnRDY standing at BUSY. -/
def ender (d : Discipline) : Instr :=
  match d with
  | .interlock | .toggle => .snrdyChange 0 true 0
  | .gated | .paced => .strobeWidthElapsed 0 0

/-- Spur 0 at that moment, with a queue; channel 1 in a phase, channel 3 HALTED, and channel 10 an OPEN
IN channel. -/
def atEnd (d : Discipline) (e : Outbound) (ph : Phase) (home : Facing) (atn : Bool)
    (q : List Outbound) : State :=
  (((onLane { lane with
      state := .sending, config := { SpurConfig.default with home := home }, atn := atn
      sending := some (lastBeat d e), reference := some false }).setQueue 0 q).setLink 0
    (some { outLink 4 1 with phase := ph })).setLink 2 (some { outLink 4 1 with
      phase := .halted .host }) |>.setLink 9 (some inLink)

theorem lastBeatEnds {s : State} {d : Discipline} {e : Outbound} (hst : (s.lane 0).state = .sending)
    (hx : (s.lane 0).sending = some (lastBeat d e)) (hr : (s.lane 0).ready = false)
    (href : (s.lane 0).reference = some false) (hb : e.body.length = 1) :
    LastBeatEnds s 0 (lastBeat d e) (ender d) := by
  refine ⟨hst, hx, by simp [lastBeat, hb], ?_⟩
  cases d <;> simp [lastBeat, ender, hr, href]

/-- The end of a one-byte parcel under each discipline, host's and playback's: with a heeded attention;
with a held parcel alone, in each home direction; and with one to take behind a held one. -/
theorem witness_EndOfParcel :
    let held : Outbound := { chan := 2, origin := .host, body := [7] }
    ∀ d ∈ disciplines, ∀ e ∈ [hostParcel [1], played],
      let s (home : Facing) (atn : Bool) (q : List Outbound) : State :=
        atEnd d e .opened home atn q
      (s .outward true []).attentionHeard 0 = true ∧
      ((s .outward true []).lane 0).yieldOwed = false ∧
      (∀ home ∈ [Facing.inward, .outward], (s home false [held]).attentionHeard 0 = false ∧
        (s home false [held]).outWork 0 = false ∧
        ((s home false [held]).lane 0).config.home = home) ∧
      (s .outward false [held, hostParcel [2]]).attentionHeard 0 = false ∧
      (s .outward false [held, hostParcel [2]]).queue 0 = [held] ++ hostParcel [2] :: [] ∧
      (∀ y ∈ [held], (s .outward false [held, hostParcel [2]]).serviceable y = false) ∧
      (s .outward false [held, hostParcel [2]]).serviceable (hostParcel [2]) = true := by
  decide +kernel

/-- A host parcel, OPEN and HALTED, with and without one behind it. -/
theorem witness_ReadyWhileSending_completion :
    ∀ d ∈ disciplines, ∀ ph ∈ [Phase.opened, .halted .host], ∀ q ∈ [[], [hostParcel [2]]],
      let s := atEnd d (hostParcel [1]) ph .outward false q
      let k : Link := { outLink 4 1 with phase := ph }
      Settled s ∧ LastBeatEnds s 0 (lastBeat d (hostParcel [1])) (ender d) ∧
      s.link 0 = some k ∧ k.isDraining = false ∧ k.dir = .outbound 4 (0 + 1) ∧
      (hostParcel [1]).origin = .host ∧
      (∀ e ∈ s.queue 0, s.serviceable e = true → e.body ≠ []) := by
  intro d hd ph hph q hq
  refine ⟨settled rfl, lastBeatEnds ?_ ?_ ?_ ?_ rfl, ?_⟩ <;> revert d ph q <;> decide +kernel

/-- A lane that takes beats in IDLE_IN under a discipline, its gather in a state and a cell above, at or
below what an ordinary claim leaves of the pool. -/
def latching (d : Discipline) (g : GatherState) (cells : Nat) : State :=
  let p : Profile := { Profile.default with discipline := d }
  let s := ((onLane { lane with
      state := .idleIn, ready := true, inSnap := some p, offer := true, reference := some true
      }).setLink 0 (some inLink)).setGather 0
    { state := g, idleTimer := some 50, lossy := decide (d = .gated), waiting := none }
  { s with pool := { s.pool with freeCells := cells } }

/-- The hypotheses that every clause has in common, in each state of the gather. -/
theorem witness_ReadyLatchesAByte :
    (∀ d g cells, Settled (latching d g cells)) ∧
    (∀ d ∈ [Discipline.interlock, .gated, .toggle],
      ∀ g ∈ [GatherState.empty, .filling 0 .normal (List.replicate 30 0),
        .filling 0 .normal (List.replicate 32 0), .losing 30],
      let s := latching d g 64
      (s.lane 0).state = .idleIn ∧ (s.lane 0).inSnap = some { Profile.default with discipline := d } ∧
      s.openIn 0 = some 0 ∧ s.inSettings 0 = some scale ∧ (s.gather 0).waiting = none ∧
      (s.lane 0).offer = true ∧ (s.lane 0).ready = true ∧
      (s.lane 0).reference = some (s.lane 0).ready ∧ (s.lane 0).yieldDue = false ∧
      s.outWork 0 = false ∧ (s.gather 0).lossy = decide (d = .gated)) ∧
    scale.ends 0x0C = false ∧ scale.gatherCount ≠ 31 :=
  ⟨fun _ _ _ => settled rfl, by decide +kernel, by decide, by decide⟩

/-- SnRDY at BUSY in IDLE_IN without an offer; and an INTERLOCK beat that waits for READY over a gather
one byte below its count, at it, and with a terminator before it, FILLING and LOSING; and beats at their
other moments. -/
theorem witness_ReadyLatchesAByte_interlock :
    let x (phase : InPhase) (term : Bool) : Receiving :=
      { disc := .interlock, ackLimit := 1000, phase := phase, byte := some 0, tests := true
        term := term, ackTimer := some 1000 }
    let bytes (n : Nat) : List Byte := List.replicate n 0
    let s (st : LaneState) (r : Option Receiving) (g : GatherState) : State :=
      ((onLane { lane with
          state := st, receiving := r, inSnap := some Profile.default
          config := { SpurConfig.default with home := .inward } }).setLink 0 (some inLink)).setGather 0
        { Gather.fresh with state := g }
    (∀ st r g, Settled (s st r g)) ∧
    (let u := s .idleIn none .empty
     (u.lane 0).state = .idleIn ∧ (u.lane 0).inSnap = some Profile.default ∧ u.openIn 0 = some 0 ∧
     u.inSettings 0 = some scale ∧ (u.gather 0).waiting = none ∧
     Profile.default.discipline = .interlock ∧ (u.lane 0).offer = false ∧
     (u.lane 0).ready = false) ∧
    (∀ v ∈ [(false, 31), (true, 0), (false, 32)],
      ∀ g ∈ [GatherState.filling 0 .normal (bytes v.2), .losing v.2],
      let u := s .receiving (some (x .returning v.1)) g
      (u.lane 0).state = .receiving ∧ (u.lane 0).receiving = some (x .returning v.1) ∧
      (u.lane 0).ready = false ∧ (u.lane 0).offer = false ∧ (x .returning v.1).tests = true ∧
      (u.lane 0).inSnap = some Profile.default ∧ (u.lane 0).yieldDue = false ∧
      u.outWork 0 = false ∧ u.openIn 0 = some 0 ∧ u.link 0 = some inLink ∧
      u.inSettings 0 = some scale ∧ (u.gather 0).state = g ∧ u.engine.records = none ∧
      (u.lane 0).config.home = .inward ∧ (u.inProfile 0).discipline = .interlock ∧
      (u.gather 0).count = v.2) ∧
    (∀ phase ∈ [InPhase.held, .strobe, .pulse],
      let u := s .receiving (some (x phase false)) .empty
      (u.lane 0).state = .receiving ∧ (u.lane 0).receiving = some (x phase false) ∧
      (x phase false).phase ≠ .returning) ∧
    bytes 32 ≠ [] ∧ (bytes 32).length = scale.gatherCount ∧ 31 ≠ scale.gatherCount :=
  ⟨fun _ _ _ => settled rfl, by decide +kernel, by decide +kernel, by decide +kernel, by decide,
    by decide, by decide⟩

/-- The pool as these states have it. -/
def small (cells : Nat) : Pool := { State.reset.pool with freeCells := cells }

/-- A byte taken: the first, one within a cell, one that needs a cell, and a lost one; and a dropped
terminator, taken. -/
theorem witness_Takes : ∀ d ∈ disciplines,
    Takes (latching d .empty 64) 0 0 scale 0x0C (.filling 0 .normal [0x0C]) ((small 64).take 1 1) ∧
    Takes (latching d .empty 63) 0 0 scale 0x0D (.filling 0 .normal []) ((small 63).take 1 0) ∧
    Takes (latching d (.filling 0 .normal (List.replicate 30 0)) 0) 0 0 scale 0x0C
      (.filling 0 .normal (List.replicate 30 0 ++ [0x0C])) (small 0) ∧
    Takes (latching d (.filling 0 .normal (List.replicate 32 0)) 64) 0 0 scale 0x0C
      (.filling 0 .normal (List.replicate 32 0 ++ [0x0C])) ((small 64).take 0 1) ∧
    Takes (latching d (.losing 30) 0) 0 0 scale 0x0C (.losing 31) (small 0) := by
  intro d hd
  refine ⟨.first ?_ rfl ?_, .firstDropped ?_ rfl ?_, .within ?_ rfl (by decide),
    .newCell ?_ rfl (by decide) ?_, .lost ?_ rfl⟩ <;> revert d <;> decide +kernel

/-- The same with a pool that refuses. -/
theorem witness_Refuses : ∀ d ∈ disciplines,
    Refuses (latching d .empty 63) 0 scale 0x0C 1 1 ∧
    Refuses (latching d .empty 62) 0 scale 0x0D 1 0 ∧
    Refuses (latching d (.filling 0 .normal (List.replicate 32 0)) 63) 0 scale 0x0C 0 1 := by
  intro d hd
  refine ⟨.first ?_ rfl ?_, .firstDropped ?_ rfl ?_,
    .newCell (c' := 0) (cls := .normal) (bs := List.replicate 32 0) ?_ rfl rfl ?_⟩ <;>
    revert d <;> decide +kernel

theorem witness_AttentionTurnsIn :
    let idle := (onLane { lane with state := .idleOut, drive := some 0 }).setLink 0 (some inLink)
    (Settled State.reset ∧ (State.reset.lane 0).state ≠ .idleOut ∧
      (State.reset.lane 0).state ≠ .idleIn) ∧
    (Settled idle ∧ (idle.lane 0).state = .idleOut ∧ (idle.lane 0).atn = false ∧
      (idle.lane 0).config.attention = .honor ∧ (idle.openIn 0).isSome = true ∧
      (idle.lane 0).yieldOwed = false ∧ idle.outWork 0 = false) :=
  ⟨⟨settled rfl, by decide +kernel⟩, settled rfl, by decide +kernel⟩

/-- A beat of the first of two bytes, and a parcel of one byte, in every phase, in which the setup time
ends and a PACED pulse has its two ends before it. -/
theorem witness_OutboundBeatTimers :
    (∀ d ph r, Settled (sending d ph r)) ∧
    (∀ d ∈ disciplines,
      ∀ ph ∈ [OutPhase.setup, .strobe, .pulse true true, .pulse true false, .pulse false true],
        ((sending d ph true).lane 0).sending = some (sends d ph) ∧ (sends d ph).snap.setup ≠ 0 ∧
        (sends d ph).done + 1 < (sends d ph).parcel.body.length ∧ (sends d ph).phase = ph ∧
        (sends d ph).snap.discipline = d ∧ ((sending d ph true).lane 0).ready = true) ∧
    (∀ d ∈ disciplines, ∀ ph ∈ [OutPhase.setup, .pulse true true],
      let x : Sending := { sends d ph with parcel := hostParcel [1] }
      let s := onLane { (sending d ph true).lane 0 with sending := some x }
      Settled s ∧ (s.lane 0).sending = some x ∧ x.done + 1 = x.parcel.body.length ∧ x.phase = ph ∧
      x.snap.discipline = d ∧ (s.lane 0).ready = true) :=
  ⟨fun _ _ _ => settled rfl, by decide +kernel, by
    intro d hd ph hp
    refine ⟨settled rfl, ?_⟩
    revert d ph
    decide +kernel⟩

/-- A playback's parcel whose context is ACTIVE, is ENDING with another parcel out, and is ENDING with
this one alone, with room for one record. -/
theorem witness_OutboundBeatTimers_playback :
    ∀ d ∈ disciplines, ∀ c ∈ [(PlayPhase.active, 2), (.ending, 2), (.ending, 1)],
      let p : Playback := { playback c.2 .running with phase := c.1 }
      let s0 := ((atEnd d played .opened .outward false []).setContext 3 (some p)).setSegment 0
        (some { segment [[1], [2], [3]] with state := .playing })
      let s : State := { s0 with
        notices := { s0.notices with fifo := List.replicate 47 .brk } }
      Settled s ∧ LastBeatEnds s 0 (lastBeat d played) (ender d) ∧ s.link 0 = some (outLink 4 1) ∧
      s.engine.records = none ∧ s.notices.fifo.length < 48 ∧
      (∀ e ∈ s.queue 0, s.serviceable e = true → e.body ≠ []) ∧
      played.origin = .playback (some 3) ∧ s.context 3 = some p ∧ (outLink 4 1).isDraining = false ∧
      (p.phase ≠ .active ∨ p.timer = .running) ∧ s.segment p.handle ≠ none ∧ p.phase = c.1 ∧
      p.count = c.2 := by
  intro d hd c hc
  refine ⟨settled rfl, lastBeatEnds ?_ ?_ ?_ ?_ rfl, ?_⟩ <;> revert d c <;> decide +kernel

/-- A host parcel in a drain that has 254 of them drained, the last one and with another behind it. -/
theorem witness_OutboundBeatTimers_drain :
    ∀ d ∈ disciplines, ∀ q ∈ [[], [hostParcel [2]]],
      let ph : Phase := .draining .drain 254 3
      let k : Link := { outLink 4 1 with phase := ph }
      let s := atEnd d (hostParcel [1]) ph .outward false q
      Settled s ∧ LastBeatEnds s 0 (lastBeat d (hostParcel [1])) (ender d) ∧ s.link 0 = some k ∧
      s.engine.records = none ∧ s.notices.fifo.length < 48 ∧
      (∀ e ∈ s.queue 0, s.serviceable e = true → e.body ≠ []) ∧ k.spur = 0 ∧
      k.dir = .outbound 4 (0 + 1) ∧ (hostParcel [1]).origin = .host ∧
      ((∃ e ∈ s.queue 0, e.chan = 0) ∨ (∀ e ∈ s.queue 0, e.chan ≠ 0)) := by
  intro d hd q hq
  refine ⟨settled rfl, lastBeatEnds ?_ ?_ ?_ ?_ rfl, ?_⟩ <;> revert d q <;> decide +kernel

/-- A GATED beat and a PACED pulse at their end, in IDLE_IN or RECEIVING, over a gather. -/
def inBeat (d : Discipline) (st : LaneState) (pulses : Pulses) (phase : InPhase) (term : Bool)
    (g : GatherState) : State :=
  let p : Profile := { Profile.default with discipline := d }
  let x : Receiving := { disc := d, ackLimit := 1000, phase := phase, byte := some 0, tests := true
                         term := term, ackTimer := none }
  let s := ((onLane { lane with
      state := st, receiving := some x, inSnap := some p, pulses := pulses
      config := { SpurConfig.default with home := .inward } }).setLink 0 (some inLink)).setGather 0
    { Gather.fresh with state := g }
  { s with profiles := s.profiles.set 0 gated }

/-- A gather one byte below its count, at it, and with a terminator before it; the same for a LOSING
one. -/
theorem witness_GatedBeatEnds :
    let x (term : Bool) : Receiving :=
      { disc := .gated, ackLimit := 1000, phase := .strobe, byte := some 0, tests := true
        term := term, ackTimer := none }
    let bytes (n : Nat) : List Byte := List.replicate n 0
    let s (term : Bool) (g : GatherState) : State := inBeat .gated .receiving .none .strobe term g
    (∀ term g, Settled (s term g)) ∧
    (∀ u ∈ [(false, 31), (true, 0), (false, 32)],
      ∀ g ∈ [GatherState.filling 0 .normal (bytes u.2), .losing u.2],
      ((s u.1 g).lane 0).state = .receiving ∧ ((s u.1 g).lane 0).sending = none ∧
      ((s u.1 g).lane 0).receiving = some (x u.1) ∧ ((s u.1 g).lane 0).inSnap = some gated ∧
      ((s u.1 g).lane 0).yieldDue = false ∧ (s u.1 g).outWork 0 = false ∧
      (s u.1 g).openIn 0 = some 0 ∧ (s u.1 g).link 0 = some inLink ∧
      (s u.1 g).inSettings 0 = some scale ∧ ((s u.1 g).gather 0).state = g ∧
      (s u.1 g).engine.records = none ∧ ((s u.1 g).lane 0).config.home = .inward ∧
      ((s u.1 g).inProfile 0).discipline = .gated) ∧
    (bytes 31).length ≠ scale.gatherCount ∧ bytes 32 ≠ [] ∧
    (bytes 32).length = scale.gatherCount ∧ 32 = scale.gatherCount :=
  ⟨fun _ _ => settled rfl, by decide +kernel, by decide, by decide, by decide, rfl⟩

/-- A PACED pulse that takes the 31st byte of 32, its interval running and elapsed; and the interval's
end in IDLE_IN and in a pulse. -/
theorem witness_GatedBeatEnds_paced :
    let bytes : List Byte := List.replicate 30 0
    let x : Receiving := { disc := .paced, ackLimit := 1000, phase := .pulse, byte := some 0
                           tests := true, term := false, ackTimer := none }
    let s (st : LaneState) (pulses : Pulses) : State :=
      inBeat .paced st pulses .pulse false (.filling 0 .normal bytes)
    (∀ st pulses, Settled (s st pulses)) ∧
    (∀ st ∈ [LaneState.receiving, .idleIn], ∀ pulses ∈ [Pulses.running, .elapsed],
      ((s st pulses).lane 0).state = st ∧ ((s st pulses).lane 0).sending = none ∧
      ((s st pulses).lane 0).receiving = some x ∧ ((s st pulses).lane 0).pulses = pulses ∧
      ((s st pulses).lane 0).inSnap = some { Profile.default with discipline := .paced } ∧
      ((s st pulses).lane 0).yieldDue = false ∧ (s st pulses).outWork 0 = false ∧
      (s st pulses).openIn 0 = some 0 ∧ (s st pulses).link 0 = some inLink ∧
      (s st pulses).inSettings 0 = some scale) ∧
    Takes (s .receiving .running) 0 0 scale 0x0C (.filling 0 .normal (bytes ++ [0x0C]))
      State.reset.pool ∧
    scale.ends 0x0C = false ∧ (bytes ++ [0x0C]).length ≠ scale.gatherCount :=
  ⟨fun _ _ => settled rfl, by decide +kernel, .within (by decide +kernel) rfl (by decide), by decide,
    by decide⟩

/-- The stall of a host parcel under TOGGLE and INTERLOCK, on an OPEN and a HALTED channel, with none and
with another parcel of the channel behind, an attention that is heeded or none, and room for one
record; with no playback onto the channel, and with one in each of its states. -/
theorem witness_AckLimitStalls :
    ∀ d ∈ [Discipline.toggle, .interlock], ∀ ph ∈ [Phase.opened, .halted .host],
      ∀ q ∈ [[], [hostParcel [9]]], ∀ atn ∈ [false, true],
        ∀ play ∈ [none, some PlayPhase.active, some .waiting, some .paused, some .ending],
          let x : Sending := { lastBeat d (hostParcel [1, 2]) with ackTimer := some 1000 }
          let l : Link := { outLink 4 1 with phase := ph }
          let h : Link := { outLink 4 1 with phase := .halted .stall, dir := .outbound 4 0 }
          let s0 := ((atEnd d (hostParcel [1, 2]) ph .outward atn q).setLane 0 { lane with
            state := .sending, sending := some x, atn := atn }).setContext 3
              (play.map fun phase => { playback 1 .running with phase := phase })
          let s : State := { s0 with
            notices := { s0.notices with fifo := List.replicate 47 .brk } }
          Settled s ∧ (s.lane 0).state = .sending ∧ (s.lane 0).sending = some x ∧
          x.ackTimer = some 1000 ∧ s.link x.parcel.chan = some l ∧ l.spur = 0 ∧
          s.engine.records = none ∧ s.notices.fifo.length < 48 ∧ x.parcel.origin = .host ∧
          l.isDraining = false ∧ l.dir = .outbound 4 (0 + 1) ∧
          s.contextOf x.parcel.chan = (play.map fun _ => 3) ∧
          s.context 3 = (play.map fun phase => { playback 1 .running with phase := phase }) ∧
          (∀ e ∈ (s.setLink 0 (some h)).queue 0, (s.setLink 0 (some h)).serviceable e = true →
            e.body ≠ []) ∧
          (s.setLink 0 (some h)).outWork 0 = false ∧
          (s.setLink 0 (some h)).attentionHeard 0 = atn := by
  intro d hd ph hp q hq atn ha play hl
  refine ⟨settled rfl, ?_⟩
  revert d ph q atn play
  decide +kernel

/-- The stall of a playback's parcel whose context is ACTIVE, is ENDING with another parcel out, and is
ENDING with this one alone, with room for two records; and of a host's and a playback's parcel in a drain,
with none and with another parcel of the channel behind, and the discarded count at 253 and 255. -/
theorem witness_AckLimitStalls_playback_and_drain :
    let stalled (d : Discipline) (e : Outbound) : Sending :=
      { lastBeat d e with ackTimer := some 1000 }
    let s (d : Discipline) (e : Outbound) (ph : Phase) (q : List Outbound) (c : PlayPhase × Nat) : State :=
      let u := ((atEnd d e ph .outward false q).setLane 0 { lane with
        state := .sending, sending := some (stalled d e) }).setContext 3
          (some { playback c.2 .running with phase := c.1 })
      { u.setSegment 0 (some { segment [[1]] with state := .playing }) with
        notices := { u.notices with fifo := List.replicate 46 .brk } }
    (∀ d e ph q c, Settled (s d e ph q c)) ∧
    (∀ d ∈ [Discipline.toggle, .interlock], ∀ c ∈ [(PlayPhase.active, 1), (.ending, 2), (.ending, 1)],
      let u := s d played .opened [] c
      let h : Link := { outLink 4 1 with phase := .halted .stall }
      (u.lane 0).state = .sending ∧ (u.lane 0).sending = some (stalled d played) ∧
      u.link 0 = some (outLink 4 1) ∧ u.engine.records = none ∧ u.notices.fifo.length < 47 ∧
      played.origin = .playback (some 3) ∧ (outLink 4 1).isDraining = false ∧ u.contextOf 0 = some 3 ∧
      u.context 3 = some { playback c.2 .running with phase := c.1 } ∧ u.segment 0 ≠ none ∧
      (∀ e ∈ (u.setLink 0 (some h)).queue 0, (u.setLink 0 (some h)).serviceable e = true →
        e.body ≠ [])) ∧
    (∀ e ∈ [hostParcel [1, 2], played], ∀ b ∈ [(253 : Byte), 255], ∀ q ∈ [[], [hostParcel [9]]],
      let ph : Phase := .draining .drain 3 b
      let l : Link := { outLink 4 1 with phase := ph }
      let u := s .toggle e ph q (.active, 1)
      let t := (u.setQueue 0 ((u.queue 0).filter fun y => y.chan ≠ 0)).setLink 0 none
      u.link 0 = some l ∧ l.phase = .draining .drain 3 b ∧ l.dir = .outbound 4 1 ∧
      u.notices.fifo.length < 47 ∧ (u.lane 0).sending = some (stalled .toggle e) ∧
      (∀ y ∈ t.queue 0, t.serviceable y = true → y.body ≠ [])) :=
  ⟨fun _ _ _ _ _ => settled rfl, by decide +kernel, by decide +kernel⟩

/-- An INTERLOCK beat waiting for READY over a FILLING and a LOSING gather of an OPEN channel, in each
home direction, and over none for a channel that has been HALTED. -/
theorem witness_AckLimitStalls_inbound :
    let x (tests : Bool) : Receiving :=
      { disc := .interlock, ackLimit := 1000, phase := .returning, byte := some 0, tests := tests
        term := false, ackTimer := some 1000 }
    let s (l : Link) (home : Facing) (tests : Bool) (g : GatherState) : State :=
      ((onLane { lane with
          state := .receiving, receiving := some (x tests), inSnap := some Profile.default
          config := { SpurConfig.default with home := home } }).setLink 0 (some l)).setGather 0
        { Gather.fresh with state := g }
    let halted : Link := { inLink with phase := .halted .host }
    (∀ l home tests g, Settled (s l home tests g)) ∧
    (∀ home ∈ [Facing.inward, .outward], ∀ g ∈ [GatherState.filling 0 .normal [1], .losing 1],
      let u := s inLink home true g
      (u.lane 0).state = .receiving ∧ (u.lane 0).sending = none ∧
      (u.lane 0).receiving = some (x true) ∧ (x true).ackTimer = some 1000 ∧
      u.engine.records = none ∧ u.openIn 0 = some 0 ∧ u.link 0 = some inLink ∧
      (x true).tests = true ∧ (u.gather 0).state = g ∧ (u.lane 0).config.home = home ∧
      u.outWork 0 = false ∧ (u.lane 0).yieldDue = false) ∧
    (let u := s halted .inward false .empty
     (u.lane 0).state = .receiving ∧ (u.lane 0).sending = none ∧
     (u.lane 0).receiving = some (x false) ∧ u.engine.records = none ∧ u.inChan 0 = some 0 ∧
     u.link 0 = some halted ∧ halted.isOpen = false ∧
     halted.isDraining = false ∧ (u.gather 0).state = .empty) :=
  ⟨fun _ _ _ _ => settled rfl, by decide +kernel, by decide +kernel⟩

/-- TURN_IN with home IN, without an OPEN IN channel and with one of each discipline stated; TURN_OUT
with an empty queue, with a parcel behind a held one, and with a lone parcel of length 0. -/
theorem witness_TurnaroundsComplete :
    let inward := onLane { lane with
      config := { SpurConfig.default with home := .inward }, state := .turnIn }
    let used (d : Discipline) : State :=
      let u := inward.setLink 0 (some inLink)
      { u with profiles := u.profiles.set 0 { Profile.default with discipline := d } }
    let outward := onLane { lane with state := .turnOut }
    let held : Outbound := { chan := 2, origin := .host, body := [7] }
    let loaded (body : List Byte) : State :=
      ((outward.setLink 0 (some (outLink 4 1))).setLink 2
        (some { outLink 4 1 with phase := .halted .host })).setQueue 0 [held, hostParcel body]
    (∀ s ∈ inward :: disciplines.map used, (s.lane 0).state = .turnIn ∧
      (s.lane 0).receiving = none ∧ (s.lane 0).config.home = .inward ∧
      (s.lane 0).yieldDue = false ∧ s.outWork 0 = false ∧ (s.lane 0).inSnap = none) ∧
    (Settled inward ∧ inward.openIn 0 = none) ∧
    (∀ d, Settled (used d)) ∧
    (∀ d ∈ disciplines, (used d).openIn 0 = some 0 ∧ ((used d).inProfile 0).discipline = d) ∧
    (Settled outward ∧ (outward.lane 0).state = .turnOut ∧
      (outward.lane 0).config.home = .outward ∧ (outward.lane 0).atn = false ∧
      outward.outWork 0 = false) ∧
    (∀ body, Settled (loaded body)) ∧
    (∀ body ∈ [[1], []], (loaded body).queue 0 = [held] ++ hostParcel body :: [] ∧
      (∀ y ∈ [held] ++ [], (loaded body).serviceable y = false) ∧
      (loaded body).serviceable (hostParcel body) = true ∧
      (loaded body).link 0 = some (outLink 4 1) ∧ (outLink 4 1).isOpen = true ∧
      (outLink 4 1).dir = .outbound 4 (0 + 1)) ∧
    (hostParcel [1]).body ≠ [] ∧ (hostParcel []).body = [] ∧ (hostParcel []).origin = .host :=
  ⟨by decide +kernel, ⟨settled rfl, by decide +kernel⟩, fun _ => settled rfl, by decide +kernel,
    ⟨settled rfl, by decide +kernel⟩, fun _ => settled rfl, by decide +kernel, by decide, rfl, rfl⟩

/-- A beat in progress, a turnaround, and IDLE_IN with an EMPTY gather, with one of 1 byte and of none,
and with a LOSING one. -/
theorem witness_YieldTimerExpires :
    let s (st : LaneState) (g : GatherState) : State :=
      ((onLane { lane with state := st, yieldTimer := some 20 }).setLink 0 (some inLink)).setGather 0
        { Gather.fresh with state := g }
    (∀ st g, Settled (s st g)) ∧
    (∀ st ∈ [LaneState.receiving, .turnIn, .idleIn],
      ∀ g ∈ [GatherState.empty, .filling 0 .normal [1], .filling 0 .express [], .losing 0],
        ((s st g).lane 0).yieldTimer = some 20 ∧ ((s st g).lane 0).state = st ∧
        ((s st g).gather 0).state = g ∧ (s st g).openIn 0 = some 0 ∧ (s st g).link 0 = some inLink ∧
        (s st g).engine.records = none) :=
  ⟨fun _ _ => settled rfl, by decide +kernel⟩

/-- One byte in each class, without a tee and with one that takes it or is full, with room for one
parcel in the data queues and with none, beside a parcel of the channel in the other queue or not; and
a LOSING gather. -/
theorem witness_IdleTimerForwardsGather :
    let l (tee : Option Handle) : Link := { inLink with tee := tee }
    let g (limit : Nat) : Segment := { segment [] with state := .capturing, cellLimit := limit }
    let s (gs : GatherState) (tee : Option Handle) (limit : Nat) (e n : List Inbound) : State :=
      let u := (((onLane { lane with
          state := .idleIn, config := { SpurConfig.default with home := .inward }
          inSnap := some gated }).setLink 0 (some (l tee))).setGather 0
            { Gather.fresh with state := gs, idleTimer := some 50 }).setSegment 0 (some (g limit))
      { u with profiles := u.profiles.set 0 gated
               arbiter := { u.arbiter with express := e, normal := n } }
    let many (k : Nat) : List Inbound := List.replicate k { chan := 1, body := [1] }
    let own : List Inbound := [{ chan := 0, body := [1] }]
    (∀ gs tee limit e n, Settled (s gs tee limit e n)) ∧
    (∀ gs ∈ [GatherState.filling 0 .normal [1], .filling 0 .express [1], .losing 1],
      ∀ tee ∈ [none, some 0], ∀ q ∈ [(many 47, []), (many 48, []), (own, many 46), ([], own)],
      let u := s gs tee 1 q.1 q.2
      (u.gather 0).idleTimer = some 50 ∧ (u.gather 0).state = gs ∧ u.openIn 0 = some 0 ∧
      u.link 0 = some (l tee) ∧ (u.lane 0).state = .idleIn ∧ (u.lane 0).inSnap = some gated ∧
      gated.discipline = .gated ∧ (u.inProfile 0).discipline = .gated ∧
      (u.lane 0).yieldDue = false ∧ u.outWork 0 = false ∧ (u.lane 0).config.home = .inward ∧
      u.engine.records = none ∧ u.segment 0 = some (g 1)) ∧
    ([1] : List Byte) ≠ [] ∧ (l none).tee = none ∧
    (many 47).length + ([] : List Inbound).length < 48 ∧
    48 ≤ (many 48).length + ([] : List Inbound).length ∧ (∃ y ∈ own, y.chan = 0) ∧
    (g 1).cellsHeld + cellsFor 1 ≤ (g 1).cellLimit ∧
    ¬ (g 0).cellsHeld + cellsFor 1 ≤ (g 0).cellLimit ∧
    (s (.losing 1) none 0 [] []).segment 0 = some (g 0) :=
  ⟨fun _ _ _ _ _ => settled rfl, by decide +kernel, by decide, rfl, by decide, by decide,
    by decide +kernel, by decide, by decide, by decide +kernel⟩

/-- Two parcels outstanding, and one with the entry before the last to come. -/
theorem witness_SpacingTimerElapses :
    (∀ n, Settled (playing n)) ∧
    (∀ n ∈ [1, 2], (playing n).context 3 = some (playback n .running) ∧
      (playback n .running).timer = .running ∧ (playback n .running).count = n) ∧
    (let s := playing 1
     let p := playback 1 .running
     let g := { segment [[1], [2], [3]] with state := .playing }
     p.phase = .active ∧ p.count < 2 ∧ p.spacing ≠ 0 ∧ s.chanOpen p.chan = true ∧
     s.segment p.handle = some g ∧ 1 ≤ p.next ∧ g.entries[p.next - 1]? = some [2] ∧
     p.next + 1 ≤ g.entries.length ∧
     s.pool.claimOrdinary 1 (cellsFor 1) = some (s.pool.take 1 1) ∧
     (s.lane p.spur).state = .sending) :=
  ⟨fun _ => settled rfl, by decide +kernel, by decide +kernel⟩

theorem witness_HoldOffExpires :
    let s : State := { State.reset with notices := State.reset.notices.addCredit 0 }
    Settled s ∧ s.notices.timer = .running 10 :=
  ⟨settled rfl, by decide +kernel⟩

/-! ### Witnesses: the Cell Pool -/

/-- Storage that an ordinary claim just gets, and that it is one cell short of. -/
theorem witness_PoolClaims :
    let p (k : Nat) : Pool := { Pool.fresh with freeCells := k, freeDescriptors := 9 }
    0 < 1 + 1 ∧ (∃ q, (p 65).claimOrdinary 1 1 = some q) ∧ (p 65).waiting = [] ∧
    1 + (64 - (p 65).mgmtCells) ≤ (p 65).freeCells ∧
    1 + (8 - (p 65).mgmtDescriptors) ≤ (p 65).freeDescriptors ∧
    (p 64).claimOrdinary 1 1 = none :=
  ⟨by decide, ⟨_, rfl⟩, by decide⟩

/-- A Gather Unit and a context at the head of the waiting list, with just what they need and one cell
short; and a waiter that is not the head. -/
theorem witness_PoolClaims_waiting :
    let w (who : Claimant) : Waiter := { who := who, descriptors := 1, cells := 1 }
    let s (g : GatherState) (who : Claimant) (cells : Nat) : State :=
      let u := ((playing 1).setLink 9 (some inLink)).setGather 0
        { Gather.fresh with state := g, waiting := some { byte := 1, term := false } }
      { u with pool := { u.pool with freeCells := cells, waiting := [w who, w (.gather 3)] } }
    (∀ who ∈ [Claimant.gather 0, .context 3],
      ∀ g ∈ [GatherState.empty, .filling 9 .normal [1]], ∀ cells ∈ [63, 64],
      (s g who cells).pool.waiting = w who :: [w (.gather 3)] ∧
      ((s g who cells).gather 0).state = g ∧
      ((s g who cells).gather 0).waiting = some { byte := 1, term := false } ∧
      (s g who cells).inChan 0 = some 9 ∧ (s g who cells).inSettings 9 = some scale ∧
      (s g who cells).context 3 = some (playback 1 .running) ∧
      (((s g who cells).segment 0).bind fun x => x.entries[1]?) = some [2] ∧
      (s g who cells).pool.freeCells = cells ∧
      (w who).descriptors + (8 - (s g who cells).pool.mgmtDescriptors) ≤
        (s g who cells).pool.freeDescriptors) ∧
    (let p := (s .empty (.gather 0) 64).pool
     (w (.gather 0)).cells + (64 - p.mgmtCells) ≤ p.freeCells) ∧
    (let p := (s .empty (.gather 0) 63).pool
     ¬ (w (.gather 0)).cells + (64 - p.mgmtCells) ≤ p.freeCells) ∧ (Claimant.gather 3) ≠ .gather 0 := by
  decide +kernel

end Sys2Proof.Tests
end

section
/-! READ CHANNEL (R40): the 28 bytes of an entry by its state and direction, and the answer to the
request. -/

namespace Sys2Proof.Machine

/-! ### Channels as request parameters -/

theorem chanOf_byteOf_chanNumber (c : Chan) : chanOf (byteOf (chanNumber c)) = some c := by
  have hc : (byteOf (chanNumber c)).toNat = c.val + 1 := by
    simp only [byteOf, chanNumber, BitVec.toNat_ofNat]
    omega
  have hr : 1 ≤ c.val + 1 ∧ c.val + 1 ≤ 47 := by omega
  simp [chanOf, hc, hr]

theorem chanOf_eq_none {b : Byte} (h : b.toNat = 0 ∨ 47 < b.toNat) : chanOf b = none :=
  dif_neg (by omega)

/-! ### The record of an entry -/

/-- Item 2 of the record (R40) for an entry that is not CLOSED, in the encoding of section 2.3. -/
def Phase.stateByte : Phase → Byte
  | .opened => 1
  | .halted _ => 2
  | .draining _ _ _ => 3

/-- Items 15 to 18 of the record (R40): halt cause, close mode, drained and discarded. -/
def Phase.endBytes : Phase → List Byte
  | .opened => [0, 255, 0, 0]
  | .halted k => [k.code, 255, 0, 0]
  | .draining m a b => [0, m.code, a, b]

/-- Items 3 to 13 of the record (R40), for an entry whose unreported credit is `credit`. -/
def Link.settingBytes (l : Link) (credit : Nat) : List Byte :=
  match l.dir with
  | .outbound limit k =>
    [0, byteOf l.spur.val, byteOf l.profile.val, byteOf limit, byteOf k, byteOf credit, 0, 0, 0, 0, 255]
  | .inbound i =>
    [1, byteOf l.spur.val, byteOf l.profile.val, 0, 255, 255, byteOf i.gatherCount] ++
      terminatorBytes i.terminator ++ [optByte 0 i.idleGap, i.cls.code]

theorem Link.settingBytes_outbound {l : Link} {limit k : Nat} (h : l.dir = .outbound limit k)
    (credit : Nat) : l.settingBytes credit =
      [0, byteOf l.spur.val, byteOf l.profile.val, byteOf limit, byteOf k, byteOf credit,
        0, 0, 0, 0, 255] := by
  simp only [Link.settingBytes, h]

theorem Link.settingBytes_inbound {l : Link} {i : InSettings} (h : l.dir = .inbound i)
    (credit : Nat) : l.settingBytes credit =
      [1, byteOf l.spur.val, byteOf l.profile.val, 0, 255, 255, byteOf i.gatherCount] ++
        terminatorBytes i.terminator ++ [optByte 0 i.idleGap, i.cls.code] := by
  simp only [Link.settingBytes, h]

@[simp] theorem Phase.endBytes_length (p : Phase) : p.endBytes.length = 4 := by cases p <;> rfl

@[simp] theorem terminatorBytes_length (t : Option Terminator) : (terminatorBytes t).length = 2 := by
  cases t <;> rfl

@[simp] theorem Link.settingBytes_length (l : Link) (credit : Nat) :
    (l.settingBytes credit).length = 11 := by
  cases h : l.dir with
  | outbound limit k => rw [Link.settingBytes_outbound h]; rfl
  | inbound i => simp [Link.settingBytes_inbound h]

/-- Items 19 to 21 of the record (R40): the entry's three counters. -/
def Channel.counterBytes (x : Channel) : List Byte :=
  fourBytes x.parcels.toNat ++ fourBytes x.bytes.toNat ++ twoBytes x.drops.toNat

@[simp] theorem Channel.counterBytes_length (x : Channel) : x.counterBytes.length = 10 := rfl

theorem State.linkBytes_closed {s : State} {c : Chan} (h : s.link c = none) :
    s.linkBytes c = [0, 255, 255, 255, 0, 255, 255, 0, 0, 0, 0, 255, 0, 0, 255, 0, 0] := by
  simp only [State.linkBytes, h]

theorem State.linkBytes_link {s : State} {c : Chan} {l : Link} (h : s.link c = some l) :
    s.linkBytes c =
      l.phase.stateByte :: l.settingBytes (s.credit c) ++ teeByte l.tee :: l.phase.endBytes := by
  obtain ⟨dir, spur, profile, tee, phase⟩ := l
  simp only [State.linkBytes, h]
  cases dir <;> cases phase <;> simp [Link.settingBytes, Phase.stateByte, Phase.endBytes]

theorem State.linkBytes_length (s : State) (c : Chan) : (s.linkBytes c).length = 17 := by
  cases h : s.link c with
  | none => rw [State.linkBytes_closed h]; rfl
  | some l => simp [State.linkBytes_link h]

theorem State.channelRecord_eq (s : State) (c : Chan) :
    s.channelRecord c = byteOf (chanNumber c) :: s.linkBytes c ++ (s.channel c).counterBytes := by
  simp [State.channelRecord, Channel.counterBytes]

theorem State.channelRecord_length (s : State) (c : Chan) : (s.channelRecord c).length = 28 := by
  simp [State.channelRecord_eq, State.linkBytes_length]

/-- Executing a request touches neither the Channel Map nor the credit table. -/
@[simp] theorem State.executing_channelRecord (s : State) (code seq : Byte) (params : List Byte)
    (c : Chan) : (s.executing code seq params).channelRecord c = s.channelRecord c := rfl

/-! ### The request -/

theorem executeRequest_readChannel (params : List Byte) (s : State) :
    executeRequest 14 params s = readChannel params s := rfl

theorem readChannel_malformed {params : List Byte} (h : params.length ≠ 1) (s : State) :
    readChannel params s = s.refuse .malformed := by
  unfold readChannel
  split
  · exact absurd rfl h
  · rfl

theorem readChannel_range {b : Byte} (h : b.toNat = 0 ∨ 47 < b.toNat) (s : State) :
    readChannel [b] s = s.refuse .range := by
  simp only [readChannel, chanOf_eq_none h]

theorem readChannel_answer (c : Chan) (s : State) :
    readChannel [byteOf (chanNumber c)] s = s.answer (s.channelRecord c) := by
  simp only [readChannel, chanOf_byteOf_chanNumber]

/-- READ CHANNEL changes nothing but what answering it changes (R40, R174). -/
theorem exec_readChannel {s : State} {seq : Byte} (c : Chan) (hs : Settled s)
    (he : Ready s 14 seq 1 28) :
    exec (.readChannel seq [byteOf (chanNumber c)]) s =
      .next (s.answered 14 seq .ok (s.channelRecord c)) := by
  have hl : 28 = (s.channelRecord c).length := (s.channelRecord_length c).symm
  have hx : executeRequest 14 [byteOf (chanNumber c)] (s.executing 14 seq [byteOf (chanNumber c)]) =
      { state := s.executing 14 seq [byteOf (chanNumber c)], status := .ok
        results := s.channelRecord c } := by
    rw [executeRequest_readChannel, readChannel_answer, State.executing_channelRecord]
    rfl
  show request 14 seq [byteOf (chanNumber c)] s = _
  exact request_answered hs (hl ▸ he) rfl hx hs.busy hs.alone hs.agenda he.idle he.between
    he.descriptor he.requestCells (hl ▸ he.responseCells)

/-- Settles O41: the rule of the request gives the record of the entry, whose bytes are read off by the
entry's direction and phase. -/
theorem readChannelAnswer : Obligations.ReadChannelAnswer := by
  unfold Obligations.ReadChannelAnswer
  intro counters tail state
  have hstate (l : Link) : state l = l.phase.stateByte := rfl
  have htail (l : Link) : tail l = teeByte l.tee :: l.phase.endBytes := by
    obtain ⟨_, _, _, tee, phase⟩ := l
    rcases phase with _ | (_ | _) | ⟨_ | _, _, _⟩ <;> rfl
  refine ⟨fun s _ h => readChannel_malformed h s, fun s _ h => readChannel_range h s,
    fun s c => ⟨s.channelRecord c, readChannel_answer c s, s.channelRecord_length c, ?_, ?_, ?_⟩,
    fun _ _ c hs he => exec_readChannel c hs he⟩
  case refine_1 =>
    intro h
    rw [State.channelRecord_eq, State.linkBytes_closed h]
    rfl
  case refine_2 =>
    intro l limit k h hdir
    rw [State.channelRecord_eq, State.linkBytes_link h, Link.settingBytes_outbound hdir, hstate, htail]
    simp only [counters, Channel.counterBytes, List.cons_append, List.nil_append, List.append_assoc]
  case refine_3 =>
    intro l i h hdir
    show _ = [byteOf (chanNumber c), state l, 1, byteOf l.spur.val, byteOf l.profile.val, 0, 255, 255,
      byteOf i.gatherCount] ++ terminatorBytes i.terminator ++ [optByte 0 i.idleGap, i.cls.code] ++
      tail l ++ counters (s.channel c)
    rw [State.channelRecord_eq, State.linkBytes_link h, Link.settingBytes_inbound hdir, hstate, htail]
    simp only [counters, Channel.counterBytes, List.cons_append, List.nil_append, List.append_assoc]

end Sys2Proof.Machine
end

section
/-! READ PROFILE (R78): the eight bytes of a stored profile, and the answer to the request. -/

namespace Sys2Proof.Machine

/-! ### Profiles as request parameters and results -/

theorem profileOf_ofNat_val (k : ProfileNo) : profileOf (BitVec.ofNat 8 k.val) = some k := by
  have hk : (BitVec.ofNat 8 k.val).toNat = k.val := by
    simp only [BitVec.toNat_ofNat]
    omega
  simp [profileOf, hk]

theorem profileOf_eq_none {b : Byte} (h : 7 < b.toNat) : profileOf b = none :=
  dif_neg (by omega)

/-- The two bytes of a 16-bit setting are its high and its low half. -/
theorem twoBytes_toNat (w : BitVec 16) :
    twoBytes w.toNat = [w.extractLsb' 8 8, w.extractLsb' 0 8] := by
  have hhigh : byteOf (w.toNat / 256) = w.extractLsb' 8 8 := by
    apply BitVec.eq_of_toNat_eq
    simp [byteOf, Nat.shiftRight_eq_div_pow]
  have hlow : byteOf w.toNat = w.extractLsb' 0 8 := by
    apply BitVec.eq_of_toNat_eq
    simp [byteOf]
  rw [twoBytes, hhigh, hlow]

theorem Profile.bytes_eq (p : Profile) :
    p.bytes = [p.discipline.code, p.setup, p.strobe,
      p.pacing.extractLsb' 8 8, p.pacing.extractLsb' 0 8,
      p.ackLimit.extractLsb' 8 8, p.ackLimit.extractLsb' 0 8] := by
  simp only [Profile.bytes, twoBytes_toNat, List.cons_append, List.nil_append]

/-! ### The request -/

theorem executeRequest_readProfile (params : List Byte) (s : State) :
    executeRequest 7 params s = readProfile params s := rfl

theorem readProfile_malformed {params : List Byte} (h : params.length ≠ 1) (s : State) :
    readProfile params s = s.refuse .malformed := by
  unfold readProfile
  split
  · exact absurd rfl h
  · rfl

theorem readProfile_range {b : Byte} (h : 7 < b.toNat) (s : State) :
    readProfile [b] s = s.refuse .range := by
  simp only [readProfile, profileOf_eq_none h]

theorem readProfile_answer (k : ProfileNo) (s : State) :
    readProfile [BitVec.ofNat 8 k.val] s =
      s.answer (BitVec.ofNat 8 k.val :: (s.profile k).bytes) := by
  simp only [readProfile, profileOf_ofNat_val]

theorem executeRequest_readProfile_ok (k : ProfileNo) (s : State) :
    executeRequest 7 [BitVec.ofNat 8 k.val] s =
      { state := s, status := .ok, results := BitVec.ofNat 8 k.val :: (s.profile k).bytes } := by
  rw [executeRequest_readProfile, readProfile_answer, State.answer]

/-- Executing a request touches no stored profile. -/
@[simp] theorem State.executing_profile (s : State) (code seq : Byte) (params : List Byte)
    (k : ProfileNo) : (s.executing code seq params).profile k = s.profile k := rfl

/-- READ PROFILE changes nothing but what answering it changes (R78, R174). -/
theorem exec_readProfile {s : State} {seq : Byte} (k : ProfileNo) (hs : Settled s)
    (he : Ready s 7 seq 1 8) :
    exec (.readProfile seq [BitVec.ofNat 8 k.val]) s =
      .next (s.answered 7 seq .ok (BitVec.ofNat 8 k.val :: (s.profile k).bytes)) := by
  have hx := executeRequest_readProfile_ok k (s.executing 7 seq [BitVec.ofNat 8 k.val])
  rw [State.executing_profile] at hx
  show request 7 seq [BitVec.ofNat 8 k.val] s = _
  exact request_answered hs he rfl hx hs.busy hs.alone hs.agenda he.idle he.between
    he.descriptor he.requestCells he.responseCells

/-- Settles O36: the refusals and the answer are those of the request's rule, and the bytes of the
stored profile are read off field by field. -/
theorem readProfileAnswer : Obligations.ReadProfileAnswer := by
  unfold Obligations.ReadProfileAnswer
  intro bytes
  have hbytes (k : ProfileNo) (p : Profile) : bytes k p = BitVec.ofNat 8 k.val :: p.bytes := by
    rw [Profile.bytes_eq]
    rfl
  simp only [hbytes]
  exact ⟨fun s _ => ⟨fun h => readProfile_malformed h s, fun _ h => readProfile_range h s,
    fun k => executeRequest_readProfile_ok k s⟩, fun _ _ k hs he => exec_readProfile k hs he⟩

end Sys2Proof.Machine
end

section
/-! IDENTIFY (R183): the identification bytes, which no state changes, and the answer to the request. -/

namespace Sys2Proof.Machine

/-- The 15 identification bytes of R183: "LC2260", the silicon revision, and the sizes of the part's
collections. -/
def identification : List Byte :=
  [0x4C, 0x43, 0x32, 0x32, 0x36, 0x30, 3, 47, 4, 8, 0, 128, 16, 8, 4]

theorem executeRequest_identify (params : List Byte) (s : State) :
    executeRequest 1 params s = identify params s := rfl

theorem identify_answer (s : State) : identify [] s = s.answer identification := rfl

theorem identify_malformed {params : List Byte} (h : params ≠ []) (s : State) :
    identify params s = s.refuse .malformed := by
  unfold identify
  split
  · exact absurd rfl h
  · rfl

theorem identify_eq (params : List Byte) (s : State) :
    identify params s =
      if params = [] then s.answer identification else s.refuse .malformed := by
  split
  case isTrue h => rw [h, identify_answer]
  case isFalse h => exact identify_malformed h s

/-- IDENTIFY changes nothing but what answering it changes (R183, R174). -/
theorem exec_identify {s : State} {seq : Byte} (hs : Settled s) (he : Ready s 1 seq 0 15) :
    exec (.identify seq []) s = .next (s.answered 1 seq .ok identification) := by
  have hx : executeRequest 1 [] (s.executing 1 seq []) =
      { state := s.executing 1 seq [], status := .ok, results := identification } := by
    rw [executeRequest_identify, identify_answer, State.answer]
  show request 1 seq [] s = _
  exact request_answered hs he rfl hx hs.busy hs.alone hs.agenda he.idle he.between
    he.descriptor he.requestCells he.responseCells

/-- Settles O30: the rule of the request reads no part of the state, and a request so answered leaves
only its response behind. -/
theorem identifyAnswer : Obligations.IdentifyAnswer := by
  unfold Obligations.IdentifyAnswer
  exact ⟨fun s params => identify_eq params s, fun _ _ hs he => exec_identify hs he⟩

end Sys2Proof.Machine
end

section
/-! The laws that every step keeps (R50, R117, R121, R123, R126, R148, R149, R172): each is kept by every
change that `Moves` allows, and so by every step. -/

namespace Sys2Proof.Machine

-- the proofs are elaborated one after another: all at once they ask for too many threads
set_option Elab.async false

/-! ### From the changes to the step -/

/-- A law that reads no more of the state than `State.law` but the command queue, and that every such
change keeps, is kept by every step. -/
theorem step_keeps {P : State → Prop} (hmoves : ∀ {s t : State}, Moves s t → P s → P t)
    (hpending : ∀ (s : State) (l : List Instr), P s → P { s with pending := l }) {s t : State}
    (hs : P s) (h : step s = .next t) : P t :=
  hmoves (step_moves h) (hpending s _ hs)

theorem State.law_parts {s t : State} (h : t.law = s.law) :
    t.notices = s.notices ∧ t.arbiter = s.arbiter ∧ t.engine.requests = s.engine.requests ∧
    t.store = s.store ∧ t.pool.segmentCells = s.pool.segmentCells ∧ t.link = s.link := by
  simp only [State.law, Prod.mk.injEq] at h
  obtain ⟨hn, ha, hr, hst, hp, hl, -⟩ := h
  exact ⟨hn, ha, hr, hst, hp, hl⟩

/-! ### The request bound (R172) -/

theorem Moves.requestBound {s t : State} (h : Moves s t) (hs : RequestBound s) : RequestBound t := by
  induction h with
  | trans _ _ first second => exact second (first hs)
  | other e =>
    obtain ⟨-, -, hr, -⟩ := State.law_parts e
    exact (congrArg (List.length · ≤ Config.requestDepth) hr).mpr hs
  | leave s e h => exact h.trans hs
  | join s r h =>
    show (s.engine.requests ++ [r]).length ≤ Config.requestDepth
    rw [List.length_append]
    exact h
  | restart s => exact Nat.zero_le _
  | lineReset s => exact Nat.zero_le _
  | lineRelease s => exact Nat.zero_le _
  | _ => exact hs

/-- Settles O9: a request joins only below the bound, and nothing else lengthens the queue. -/
theorem stepKeepsRequestBound : Obligations.StepKeepsRequestBound := by
  unfold Obligations.StepKeepsRequestBound
  intro s t hs h
  exact step_keeps Moves.requestBound (fun _ _ hp => hp) hs h

/-! ### The bounds of the return path (R117, R121, R123) -/

theorem Notices.arrive_fifo_le {nb : Notices} (h : nb.fifo.length ≤ Config.fifoDepth) (r : Record) :
    (nb.arrive r).fifo.length ≤ Config.fifoDepth := by
  by_cases hr : nb.fifo.length < Config.fifoDepth
  · rw [Notices.arrive_room hr]
    simpa using hr
  · rw [Notices.arrive_full hr]
    exact h

theorem Arbiter.join_cases (a : Arbiter) (cls : DataClass) (x : Inbound) :
    a.join cls x = { a with express := a.express ++ [x] } ∨
    a.join cls x = { a with normal := a.normal ++ [x] } := by
  unfold Arbiter.join
  dsimp only
  exact ite_eq_or_eq _ _ _

theorem Arbiter.join_length (a : Arbiter) (cls : DataClass) (x : Inbound) :
    (a.join cls x).express.length + (a.join cls x).normal.length =
      a.express.length + a.normal.length + 1 := by
  rcases Arbiter.join_cases a cls x with h | h <;> rw [h, List.length_append] <;>
    simp only [List.length_singleton] <;> omega

@[simp] theorem Arbiter.join_run (a : Arbiter) (cls : DataClass) (x : Inbound) :
    (a.join cls x).run = a.run := by
  rcases Arbiter.join_cases a cls x with h | h <;> rw [h]

/-- The bounds read the notice FIFO, the data queues and the express run alone. -/
theorem ReturnPathBounds.of_eq {s t : State} (hs : ReturnPathBounds s)
    (hf : t.notices.fifo = s.notices.fifo) (ha : t.arbiter = s.arbiter) : ReturnPathBounds t :=
  ⟨hf ▸ hs.fifo, ha ▸ hs.data, ha ▸ hs.run⟩

theorem Moves.returnPathBounds {s t : State} (h : Moves s t) (hs : ReturnPathBounds s) :
    ReturnPathBounds t := by
  induction h with
  | trans _ _ first second => exact second (first hs)
  | other e =>
    obtain ⟨hn, ha, -⟩ := State.law_parts e
    exact hs.of_eq (congrArg Notices.fifo hn) ha
  | arrive s r => exact ⟨Notices.arrive_fifo_le hs.fifo r, hs.data, hs.run⟩
  | assemble s =>
    refine ⟨?_, hs.data, hs.run⟩
    show (s.notices.fifo.drop _).length ≤ Config.fifoDepth
    exact (List.length_drop ▸ Nat.sub_le _ _).trans hs.fifo
  | gathered s cls x h =>
    refine ⟨hs.fifo, ?_, ?_⟩
    · show (s.arbiter.join cls x).express.length + (s.arbiter.join cls x).normal.length ≤ _
      rw [Arbiter.join_length]
      exact h
    · show (s.arbiter.join cls x).run ≤ _
      rw [Arbiter.join_run]
      exact hs.run
  | granted s a hd hr => exact ⟨hs.fifo, hd.trans hs.data, hr hs.run⟩
  | restart s => exact ⟨Notices.arrive_fifo_le (Nat.zero_le _) _, Nat.zero_le _, Nat.zero_le _⟩
  | lineReset s => exact ⟨Nat.zero_le _, Nat.zero_le _, Nat.zero_le _⟩
  | lineRelease s => exact ⟨Notices.arrive_fifo_le (Nat.zero_le _) _, Nat.zero_le _, Nat.zero_le _⟩
  | _ => exact hs.of_eq rfl rfl

/-- Settles O5: a record or a gathered parcel joins only where there is room, and a grant keeps the
express run within its bound. -/
theorem stepKeepsReturnPathBounds : Obligations.StepKeepsReturnPathBounds := by
  unfold Obligations.StepKeepsReturnPathBounds
  intro s t hs h
  exact step_keeps Moves.returnPathBounds (fun _ _ hp => hp.of_eq rfl rfl) hs h

/-! ### The hold-off law (R126) -/

theorem Notices.noCredit_false_iff (nb : Notices) :
    nb.noCredit = false ↔ ∃ c : Chan, nb.credits[c.val] ≠ 0 := by
  rw [← Bool.not_eq_true, Notices.noCredit_iff, not_forall]

theorem Notices.addCredit_credit (nb : Notices) (c d : Chan) :
    (nb.addCredit c).credits[d.val] = nb.credits[d.val] + if d = c then 1 else 0 := by
  by_cases h : d = c
  · subst h; simp [Notices.addCredit]
  · have hv : c.val ≠ d.val := fun e => h (Fin.ext e.symm)
    simp [Notices.addCredit, hv, h]

theorem Notices.clearCredit_credit (nb : Notices) (c d : Chan) :
    (nb.clearCredit c).credits[d.val] = if d = c then 0 else nb.credits[d.val] := by
  by_cases h : d = c
  · subst h; simp [Notices.clearCredit]
  · have hv : c.val ≠ d.val := fun e => h (Fin.ext e.symm)
    simp [Notices.clearCredit, hv, h]

theorem Notices.addCredit_noCredit (nb : Notices) (c : Chan) :
    (nb.addCredit c).noCredit = false :=
  (Notices.noCredit_false_iff _).mpr ⟨c, by simp [Notices.addCredit_credit]⟩

/-- The law of the hold-off timer, of the Notice Builder alone. -/
theorem holdOffLaw_iff (s : State) :
    HoldOffLaw s ↔ (s.notices.timer = .stopped ↔ s.notices.noCredit = true) := Iff.rfl

theorem Notices.addCredit_holdOff {nb : Notices} (h : nb.timer = .stopped ↔ nb.noCredit = true)
    (c : Chan) :
    (nb.addCredit c).timer = .stopped ↔ (nb.addCredit c).noCredit = true := by
  rw [Notices.addCredit_noCredit]
  have hrunning : (nb.addCredit c).timer ≠ .stopped := by
    show (if nb.noCredit then HoldOff.start nb.holdOff else nb.timer) ≠ .stopped
    split
    · exact HoldOff.start_ne _
    · rename_i hn; exact fun ht => hn (h.mp ht)
  simp [hrunning]

theorem Notices.clearCredit_timer (nb : Notices) (c : Chan) :
    (nb.clearCredit c).timer = if (nb.clearCredit c).noCredit then .stopped else nb.timer := rfl

theorem Notices.clearCredit_holdOff {nb : Notices} (h : nb.timer = .stopped ↔ nb.noCredit = true)
    (c : Chan) :
    (nb.clearCredit c).timer = .stopped ↔ (nb.clearCredit c).noCredit = true := by
  rw [Notices.clearCredit_timer]
  cases hc : (nb.clearCredit c).noCredit with
  | true => simp
  | false =>
    obtain ⟨d, hd⟩ := (Notices.noCredit_false_iff _).mp hc
    have hbefore : nb.noCredit = false := by
      refine (Notices.noCredit_false_iff _).mpr ⟨d, fun h0 => hd ?_⟩
      rw [Notices.clearCredit_credit, h0, ite_self]
    simp [h, hbefore]

theorem Notices.assembled_timer (nb : Notices) :
    nb.assembled.timer =
      if nb.assembled.noCredit then .stopped else HoldOff.start nb.holdOff := rfl

theorem Notices.assembled_holdOff (nb : Notices) :
    nb.assembled.timer = .stopped ↔ nb.assembled.noCredit = true := by
  rw [Notices.assembled_timer]
  split <;> simp_all [HoldOff.start_ne]

theorem noCredit_of_replicate {nb : Notices} (h : nb.credits = Vector.replicate 47 0) :
    nb.noCredit = true := by
  rw [Notices.noCredit_iff]
  intro c
  simp [h]

theorem HoldOffLaw.of_eq {s t : State} (hs : HoldOffLaw s)
    (ht : t.notices.timer = s.notices.timer) (hc : t.notices.credits = s.notices.credits) :
    HoldOffLaw t := by
  have hn : t.notices.noCredit = s.notices.noCredit := by simp only [Notices.noCredit, hc]
  rw [holdOffLaw_iff, ht, hn]
  exact hs

/-- A table that a reset has cleared, with its timer STOPPED, meets the law. -/
theorem holdOffLaw_cleared {s : State} (ht : s.notices.timer = .stopped)
    (hc : s.notices.credits = Vector.replicate 47 0) : HoldOffLaw s :=
  (holdOffLaw_iff s).mpr ⟨fun _ => noCredit_of_replicate hc, fun _ => ht⟩

theorem Moves.holdOffLaw {s t : State} (h : Moves s t) (hs : HoldOffLaw s) : HoldOffLaw t := by
  induction h with
  | trans _ _ first second => exact second (first hs)
  | other e =>
    obtain ⟨hn, -⟩ := State.law_parts e
    exact hs.of_eq (congrArg _ hn) (congrArg _ hn)
  | arrive s r => exact hs.of_eq (Notices.arrive_timer _ r) (Notices.arrive_credits _ r)
  | expire s p h =>
    have hcredit : s.notices.noCredit = false := by
      rw [← Bool.not_eq_true, ← (holdOffLaw_iff s).mp hs, h]
      simp
    show HoldOff.expired = .stopped ↔ s.notices.noCredit = true
    simp [hcredit]
  | assemble s => exact Notices.assembled_holdOff s.notices
  | refund s c => exact Notices.addCredit_holdOff hs c
  | release s c => exact Notices.addCredit_holdOff hs c
  | shut s c => exact Notices.clearCredit_holdOff hs c
  | restart s =>
    exact holdOffLaw_cleared (Notices.arrive_timer _ _) (Notices.arrive_credits _ _)
  | lineReset s => exact holdOffLaw_cleared rfl rfl
  | lineRelease s =>
    exact holdOffLaw_cleared (Notices.arrive_timer _ _) (Notices.arrive_credits _ _)
  | _ => exact hs.of_eq rfl rfl

/-- Settles O6: credits are added and cleared together with the timer's start and stop, and only a
running timer expires. -/
theorem stepKeepsHoldOffLaw : Obligations.StepKeepsHoldOffLaw := by
  unfold Obligations.StepKeepsHoldOffLaw
  intro s t hs h
  exact step_keeps Moves.holdOffLaw (fun _ _ hp => hp.of_eq rfl rfl) hs h

/-! ### The credit law (R50, R125) -/

/-- The credit law for one channel, of its link and its unreported credit. -/
def CreditWithin (l : Option Link) (credit : Nat) : Prop :=
  match l with
  | none => credit = 0
  | some l => match l.dir with
    | .outbound limit outstanding => outstanding + credit ≤ limit ∧ limit ≤ 15
    | .inbound _ => credit = 0

theorem creditLaw_iff (s : State) : CreditLaw s ↔ ∀ c, CreditWithin (s.link c) (s.credit c) := Iff.rfl

theorem creditWithin_outbound {l : Link} {limit k credit : Nat} (h : l.dir = .outbound limit k) :
    CreditWithin (some l) credit ↔ k + credit ≤ limit ∧ limit ≤ 15 := by
  simp only [CreditWithin, h]

/-- The law reads no more of a link than its direction. -/
theorem creditWithin_of_dir {l l' : Link} {credit : Nat} (hd : l'.dir = l.dir) :
    CreditWithin (some l') credit ↔ CreditWithin (some l) credit := by
  simp only [CreditWithin, hd]

theorem CreditWithin.mono {l : Option Link} {credit less : Nat} (h : CreditWithin l credit)
    (hle : less ≤ credit) : CreditWithin l less := by
  cases l with
  | none => exact Nat.le_zero.mp (hle.trans h.le)
  | some l =>
    cases hd : l.dir with
    | outbound limit k =>
      rw [creditWithin_outbound hd] at h ⊢
      exact ⟨by omega, h.2⟩
    | inbound i =>
      simp only [CreditWithin, hd] at h ⊢
      omega

theorem CreditLaw.of_eq {s t : State} (hs : CreditLaw s) (hl : t.link = s.link)
    (hc : t.notices.credits = s.notices.credits) : CreditLaw t := by
  intro c
  have hcredit : t.credit c = s.credit c := by simp only [State.credit, hc]
  rw [hl, hcredit]
  exact hs c

/-- A change of one entry and of its credit keeps the law where that entry meets it. -/
theorem CreditLaw.at {s t : State} (hs : CreditLaw s) (c : Chan)
    (hl : ∀ d, d ≠ c → t.link d = s.link d) (hc : ∀ d, d ≠ c → t.credit d = s.credit d)
    (hcc : CreditWithin (t.link c) (t.credit c)) : CreditLaw t := by
  intro d
  by_cases hd : d = c
  · rw [hd]; exact hcc
  · rw [hl d hd, hc d hd]; exact hs d

theorem State.setLink_credit (s : State) (c d : Chan) (l : Option Link) :
    (s.setLink c l).credit d = s.credit d := rfl

theorem CreditLaw.setLink {s : State} (hs : CreditLaw s) (c : Chan) (l : Option Link)
    (h : CreditWithin l (s.credit c)) : CreditLaw (s.setLink c l) :=
  hs.at c (fun _ hd => State.link_setLink_ne s hd l) (fun _ _ => rfl)
    (by rw [State.link_setLink]; exact h)

theorem credit_addCredit (s : State) (c d : Chan) :
    State.credit { s with notices := s.notices.addCredit c } d =
      s.credit d + if d = c then 1 else 0 := Notices.addCredit_credit _ c d

theorem CreditLaw.addCredit {s : State} (hs : CreditLaw s) (c : Chan)
    (h : CreditWithin (s.link c) (s.credit c + 1)) :
    CreditLaw { s with notices := s.notices.addCredit c } := by
  refine hs.at c (fun _ _ => rfl) (fun d hd => ?_) ?_
  · rw [credit_addCredit, if_neg hd, Nat.add_zero]
  · rw [credit_addCredit, if_pos rfl]; exact h

/-- The assembly of a notice sets a count to 0 or leaves it. -/
theorem Notices.clear_le (l : List Chan) (v : Vector Nat 47) (c : Chan) :
    (l.foldl (fun (v : Vector Nat 47) (c : Chan) => v.set c.val 0) v)[c.val] ≤ v[c.val] := by
  induction l generalizing v with
  | nil => exact le_rfl
  | cons d l ih =>
    refine (ih _).trans ?_
    by_cases h : d.val = c.val
    · simp [h]
    · simp [h]

theorem creditLaw_cleared {s : State} (hl : s.channels = Vector.replicate 47 Channel.fresh)
    (hc : s.notices.credits = Vector.replicate 47 0) : CreditLaw s := by
  intro c
  have hlink : s.link c = none := by simp [State.link, State.channel, hl, Channel.fresh]
  have hcredit : s.credit c = 0 := by simp [State.credit, hc]
  rw [hlink, hcredit]

theorem Moves.creditLaw {s t : State} (h : Moves s t) (hs : CreditLaw s) : CreditLaw t := by
  induction h with
  | trans _ _ first second => exact second (first hs)
  | other e =>
    obtain ⟨hn, -, -, -, -, hl⟩ := State.law_parts e
    exact hs.of_eq hl (congrArg _ hn)
  | arrive s r => exact hs.of_eq rfl (Notices.arrive_credits _ r)
  | assemble s => exact fun c => ((creditLaw_iff s).mp hs c).mono (Notices.clear_le _ _ c)
  | relink s c l l' h hd =>
    have hc := (creditLaw_iff s).mp hs c
    rw [h] at hc
    exact hs.setLink c _ ((creditWithin_of_dir hd).mpr hc)
  | accept s c l limit k h hd hk =>
    have hc := (creditLaw_iff s).mp hs c
    rw [h, creditWithin_outbound hd] at hc
    exact hs.setLink c _ ((creditWithin_outbound rfl).mpr ⟨by omega, hc.2⟩)
  | refund s c l limit k h hd hk =>
    have hc := (creditLaw_iff s).mp hs c
    rw [h, creditWithin_outbound hd] at hc
    exact hs.addCredit c (by rw [h, creditWithin_outbound hd]; exact ⟨by omega, hc.2⟩)
  | release s c l limit k h hd =>
    have hc := (creditLaw_iff s).mp hs c
    rw [h, creditWithin_outbound hd] at hc
    refine CreditLaw.addCredit (hs.setLink c (some { l with dir := .outbound limit k }) ?_) c ?_
    · exact (creditWithin_outbound rfl).mpr ⟨by omega, hc.2⟩
    · rw [State.link_setLink, State.setLink_credit]
      exact (creditWithin_outbound rfl).mpr ⟨by omega, hc.2⟩
  | discard s c l limit k h hd =>
    have hc := (creditLaw_iff s).mp hs c
    rw [h, creditWithin_outbound hd] at hc
    exact hs.setLink c _ ((creditWithin_outbound rfl).mpr ⟨by omega, hc.2⟩)
  | opens s c l h hd =>
    have hc : s.credit c = 0 := by
      have := (creditLaw_iff s).mp hs c
      rw [h] at this
      exact this
    refine hs.setLink c _ ?_
    rw [hc]
    cases hl : l.dir with
    | outbound limit k =>
      obtain ⟨rfl, hle⟩ := hd limit k hl
      exact (creditWithin_outbound hl).mpr ⟨by omega, hle⟩
    | inbound i => simp only [CreditWithin, hl]
  | shut s c =>
    refine hs.at c (fun d hd => State.link_setLink_ne _ hd _) (fun d hd => ?_) ?_
    · exact (Notices.clearCredit_credit _ c d).trans (if_neg hd)
    · rw [State.link_setLink]
      exact (Notices.clearCredit_credit _ c c).trans (if_pos rfl)
  | restart s => exact creditLaw_cleared rfl (Notices.arrive_credits _ _)
  | lineReset s => exact creditLaw_cleared rfl rfl
  | lineRelease s => exact creditLaw_cleared rfl (Notices.arrive_credits _ _)
  | _ => exact hs.of_eq rfl rfl

/-- Settles O7: a parcel or a refund takes a credit only below the limit, a completion moves one from
outstanding to unreported, and a channel opens and closes with none. -/
theorem stepKeepsCreditLaw : Obligations.StepKeepsCreditLaw := by
  unfold Obligations.StepKeepsCreditLaw
  intro s t hs h
  exact step_keeps Moves.creditLaw (fun _ _ hp => hp.of_eq rfl rfl) hs h

/-! ### The segment law (R148, R149, R156) -/

/-- The cells of one place of the catalogue. -/
def heldAt (x : Option Segment) : Nat := match x with | some g => g.cellsHeld | none => 0

/-- The bounds of one place of the catalogue (R149). -/
def SegmentWithin (x : Option Segment) : Prop :=
  ∀ g, x = some g → g.entries.length ≤ Config.segmentEntries ∧ g.cellsHeld ≤ g.cellLimit

/-- The sum over the catalogue, place by place. -/
theorem Store.cellSum_eq (st : Store) :
    st.cellSum = ((List.finRange 16).map fun h : Handle => heldAt st.segments[h.val]).sum := by
  have hlist : st.segments.toList = (List.finRange 16).map fun h : Handle => st.segments[h.val] := by
    apply List.ext_getElem
    · simp
    · intro i h1 h2
      simp
  unfold Store.cellSum
  rw [hlist, List.map_map]
  rfl

/-- A place of the catalogue changes, and the sum changes by its cells. -/
theorem Store.cellSum_set (st : Store) (h : Handle) (x : Option Segment) :
    Store.cellSum { st with segments := st.segments.set h.val x } + heldAt st.segments[h.val] =
      st.cellSum + heldAt x := by
  rw [Store.cellSum_eq, Store.cellSum_eq, ← Fin.sum_univ_def, ← Fin.sum_univ_def,
    Fintype.sum_eq_add_sum_compl h, Fintype.sum_eq_add_sum_compl h]
  have hothers : ∑ k ∈ {h}ᶜ, heldAt (st.segments.set h.val x)[k.val] =
      ∑ k ∈ {h}ᶜ, heldAt st.segments[k.val] := by
    refine Finset.sum_congr rfl fun k hk => ?_
    have hv : h.val ≠ k.val := fun e => (by simpa using hk : k ≠ h) (Fin.ext e.symm)
    simp [hv]
  rw [hothers]
  simp only [Vector.getElem_set_self]
  omega

theorem Segment.cellsHeld_append (g : Segment) (body : List Byte) :
    Segment.cellsHeld { g with entries := g.entries ++ [body] } =
      g.cellsHeld + cellsFor body.length := by
  simp [Segment.cellsHeld]

theorem SegmentLaw.within {s : State} (hs : SegmentLaw s) (h : Handle) :
    SegmentWithin (s.segment h) := fun g hg => ⟨hs.entries h g hg, hs.cells h g hg⟩

theorem SegmentLaw.of_eq {s t : State} (hs : SegmentLaw s) (hst : t.store = s.store)
    (hp : t.pool.segmentCells = s.pool.segmentCells) : SegmentLaw t := by
  have hseg : ∀ h, t.segment h = s.segment h := fun h => by simp only [State.segment, hst]
  exact ⟨fun h g e => hs.entries h g (hseg h ▸ e), fun h g e => hs.cells h g (hseg h ▸ e),
    by rw [hp, hst]; exact hs.total, by rw [hp, hst]; exact hs.quota, by rw [hst]; exact hs.most⟩

/-- A change of one place keeps the law where that place keeps its bounds and the pool's total follows
within the quota. -/
theorem SegmentLaw.setSegment {s : State} (hs : SegmentLaw s) (h : Handle) (x : Option Segment)
    (p : Pool) (hx : SegmentWithin x)
    (htotal : p.segmentCells + heldAt (s.segment h) = s.pool.segmentCells + heldAt x)
    (hquota : p.segmentCells ≤ s.store.quota) :
    SegmentLaw { s.setSegment h x with pool := p } := by
  have hwithin : ∀ k, SegmentWithin ((s.setSegment h x).segment k) := by
    intro k
    by_cases hk : k = h
    · rw [hk, State.segment_setSegment]; exact hx
    · rw [State.segment_setSegment_ne s hk]; exact hs.within k
  refine ⟨fun k g e => (hwithin k g e).1, fun k g e => (hwithin k g e).2, ?_, hquota, hs.most⟩
  have hsum : (s.setSegment h x).store.cellSum + heldAt (s.segment h) = s.store.cellSum + heldAt x :=
    Store.cellSum_set s.store h x
  have hold := hs.total
  show p.segmentCells = (s.setSegment h x).store.cellSum
  omega

/-- Making every segment READY changes no place's contents (R168). -/
theorem segments_restarted (st : Store) (h : Handle) :
    st.restarted.segments[h.val] = st.segments[h.val].map Segment.restarted := by
  have hfold : ∀ (l : List (Fin 16)) (v : Vector (Option Segment) 16),
      (l.foldl (fun (v : Vector (Option Segment) 16) (h : Fin 16) =>
        v.set h.val (st.segments[h.val].map Segment.restarted)) v)[h.val] =
      if h ∈ l then st.segments[h.val].map Segment.restarted else v[h.val] := by
    intro l
    induction l with
    | nil => intro v; simp
    | cons k l ih =>
      intro v
      rw [List.foldl_cons, ih]
      by_cases hk : h = k
      · subst hk; simp
      · have hv : k.val ≠ h.val := fun e => hk (Fin.ext e.symm)
        simp [hk, hv]
  exact (hfold _ _).trans (if_pos (List.mem_finRange h))

theorem heldAt_restarted (x : Option Segment) : heldAt (x.map Segment.restarted) = heldAt x := by
  cases x <;> rfl

theorem cellSum_restarted (st : Store) : st.restarted.cellSum = st.cellSum := by
  simp only [Store.cellSum_eq, segments_restarted, heldAt_restarted]

theorem restart_segment (s : State) (h : Handle) :
    (Machine.restart s).segment h = (s.segment h).map Segment.restarted :=
  segments_restarted s.store h

@[simp] theorem restart_store (s : State) : (Machine.restart s).store = s.store.restarted := rfl

@[simp] theorem restart_segmentCells (s : State) :
    (Machine.restart s).pool.segmentCells = s.pool.segmentCells := rfl

@[simp] theorem Store.restarted_quota (st : Store) : st.restarted.quota = st.quota := by
  simp only [Store.restarted]

theorem segmentWithin_restart {s : State} (hs : SegmentLaw s) (h : Handle) :
    SegmentWithin ((Machine.restart s).segment h) := by
  rw [restart_segment]
  intro g e
  obtain ⟨g', hg', rfl⟩ := Option.map_eq_some_iff.mp e
  exact hs.within h g' hg'

theorem SegmentLaw.restarted {s : State} (hs : SegmentLaw s) : SegmentLaw (Machine.restart s) where
  entries h g e := (segmentWithin_restart hs h g e).1
  cells h g e := (segmentWithin_restart hs h g e).2
  total := by rw [restart_segmentCells, restart_store, cellSum_restarted, hs.total]
  quota := by rw [restart_segmentCells, restart_store, Store.restarted_quota]; exact hs.quota
  most := by rw [restart_store, Store.restarted_quota]; exact hs.most

/-- An empty catalogue whose pool counts no segment cells meets the law. -/
theorem segmentLaw_empty {s : State} (hst : s.store.segments = Vector.replicate 16 none)
    (hp : s.pool.segmentCells = 0) (hq : s.store.quota ≤ Config.maxSegmentCells) : SegmentLaw s := by
  have hseg : ∀ h, s.segment h = none := fun h => by simp [State.segment, hst]
  refine ⟨fun h g e => ?_, fun h g e => ?_, ?_, by omega, hq⟩
  · rw [hseg h] at e; cases e
  · rw [hseg h] at e; cases e
  · rw [hp, Store.cellSum_eq]
    simp [hst, heldAt]

theorem Moves.segmentLaw {s t : State} (h : Moves s t) (hs : SegmentLaw s) : SegmentLaw t := by
  induction h with
  | trans _ _ first second => exact second (first hs)
  | other e =>
    obtain ⟨-, -, -, hst, hp, -⟩ := State.law_parts e
    exact hs.of_eq hst hp
  | append s h g body p hg he hc hq hp =>
    refine hs.setSegment h _ p ?_ ?_ (hp ▸ hq)
    · rintro _ ⟨rfl⟩
      rw [Segment.cellsHeld_append]
      exact ⟨by simpa using he, hc⟩
    · rw [hg]
      simp only [heldAt, Segment.cellsHeld_append]
      omega
  | segState s h g st hg =>
    refine hs.setSegment h _ s.pool ?_ (by rw [hg]; rfl) hs.quota
    rintro _ ⟨rfl⟩
    exact hs.within h g hg
  | create s h label limit hg =>
    refine hs.setSegment h _ s.pool ?_ (by rw [hg]; rfl) hs.quota
    rintro _ ⟨rfl⟩
    exact ⟨Nat.zero_le _, Nat.zero_le _⟩
  | delete s h g p hg hp =>
    have hle : g.cellsHeld ≤ s.pool.segmentCells := by
      have hsum := Store.cellSum_set s.store h none
      have hat : heldAt s.store.segments[h.val] = g.cellsHeld := congrArg heldAt hg
      have hnone : heldAt none = 0 := rfl
      have := hs.total
      omega
    refine hs.setSegment h none p (fun _ e => nomatch e) ?_ ?_
    · rw [hg, hp]
      simp only [heldAt]
      omega
    · rw [hp]
      exact (Nat.sub_le _ _).trans hs.quota
  | contexts s v => exact ⟨hs.entries, hs.cells, hs.total, hs.quota, hs.most⟩
  | quota s q h hm => exact ⟨hs.entries, hs.cells, hs.total, h, hm⟩
  | restart s => exact hs.restarted
  | lineReset s => exact segmentLaw_empty rfl rfl hs.most
  | lineRelease s => exact segmentLaw_empty rfl rfl (show 1024 ≤ 1536 by decide)
  | _ => exact hs.of_eq rfl rfl

/-- Settles O8: the catalogue changes one place at a time, together with the pool's total, and a write
passes the tests of R149. -/
theorem stepKeepsSegmentLaw : Obligations.StepKeepsSegmentLaw := by
  unfold Obligations.StepKeepsSegmentLaw
  intro s t hs h
  exact step_keeps Moves.segmentLaw (fun _ _ hp => hp.of_eq rfl rfl) hs h

/-! ### The laws at reset -/

/-- Settles O4: right after reset every collection the laws speak of is empty. -/
theorem resetMeetsTheLaws : Obligations.ResetMeetsTheLaws := by
  unfold Obligations.ResetMeetsTheLaws
  exact ⟨⟨Nat.zero_le _, Nat.zero_le _, Nat.zero_le _⟩, holdOffLaw_cleared rfl rfl,
    creditLaw_cleared rfl rfl, segmentLaw_empty rfl rfl (by decide), Nat.zero_le _⟩

/-! ### The front of the queue -/

/-- Settles O1: both clauses are the branches of `step`. -/
theorem stepRunsFrontCommand : Obligations.StepRunsFrontCommand := by
  unfold Obligations.StepRunsFrontCommand
  refine ⟨fun c rest s h => by simp only [step, h], fun s hp ha => ?_⟩
  have hrest : s.carryOut = s := State.carryOut_run (run_settled ha _) ha
  simp only [step, hp, hrest]

end Sys2Proof.Machine
end

section
/-! The trunk (01_parcels_and_the_trunk.md): how an act is followed rule by rule, what each beat does to
the receiver, and the handshake of trunk-out. -/

namespace Sys2Proof.Machine

-- the proofs are elaborated one after another: all at once they ask for too many threads
set_option Elab.async false

/-! ### Following an act -/

/-- Taking at most n rules of the act, s comes to t. -/
def Leads (n : Nat) (s t : State) : Prop := ∃ k ≤ n, ∀ fuel, run (fuel + k) s = run fuel t

theorem Leads.refl (n : Nat) (s : State) : Leads n s s := ⟨0, Nat.zero_le n, fun _ => rfl⟩

theorem Leads.of_eq {n : Nat} {s t : State} (h : s = t) : Leads n s t := h ▸ Leads.refl n s

theorem Leads.trans {n m : Nat} {s t u : State} (h : Leads n s t) (h' : Leads m t u) :
    Leads (n + m) s u := by
  obtain ⟨k, hk, hrun⟩ := h
  obtain ⟨k', hk', hrun'⟩ := h'
  refine ⟨k' + k, by omega, fun fuel => ?_⟩
  rw [← Nat.add_assoc, hrun, hrun']

/-- The rule at the front of the agenda is taken. -/
theorem Leads.step {n : Nat} {s t : State} {j : Job} {rest : List Job} (h : s.agenda = j :: rest)
    (hj : j.isLater = false) (h' : Leads n (doJob j { s with agenda := rest }) t) :
    Leads (n + 1) s t := by
  obtain ⟨k, hk, hrun⟩ := h'
  refine ⟨k + 1, by omega, fun fuel => ?_⟩
  rw [← Nat.add_assoc, run_cons h hj, hrun]

/-- An act followed to the end of its agenda. -/
theorem Leads.carryOut {n : Nat} {s t : State} (h : Leads n s t) (hn : n ≤ 4294967296)
    (ht : t.agenda = []) : s.carryOut = t := by
  obtain ⟨k, hk, hrun⟩ := h
  refine State.carryOut_run ?_ ht
  have hbound : Config.actBound = (4294967296 - k) + k := by
    show 4294967296 = _
    omega
  rw [hbound, hrun, run_settled ht]

/-- The same state with other rules of the act still to take. -/
def State.doing (s : State) (js : List Job) : State := { s with agenda := js }

section doing
variable (s : State) (js : List Job)

@[simp] theorem State.doing_inReset : (s.doing js).inReset = s.inReset := rfl
@[simp] theorem State.doing_trunkIn : (s.doing js).trunkIn = s.trunkIn := rfl
@[simp] theorem State.doing_trunkOut : (s.doing js).trunkOut = s.trunkOut := rfl
@[simp] theorem State.doing_rx : (s.doing js).rx = s.rx := rfl
@[simp] theorem State.doing_tx : (s.doing js).tx = s.tx := rfl
@[simp] theorem State.doing_pool : (s.doing js).pool = s.pool := rfl
@[simp] theorem State.doing_engine : (s.doing js).engine = s.engine := rfl
@[simp] theorem State.doing_arbiter : (s.doing js).arbiter = s.arbiter := rfl
@[simp] theorem State.doing_notices : (s.doing js).notices = s.notices := rfl
@[simp] theorem State.doing_store : (s.doing js).store = s.store := rfl
@[simp] theorem State.doing_profiles : (s.doing js).profiles = s.profiles := rfl
@[simp] theorem State.doing_channels : (s.doing js).channels = s.channels := rfl
@[simp] theorem State.doing_columns : (s.doing js).columns = s.columns := rfl
@[simp] theorem State.doing_agenda : (s.doing js).agenda = js := rfl
@[simp] theorem State.doing_doing (ks : List Job) : (s.doing js).doing ks = s.doing ks := rfl
@[simp] theorem State.doing_push (ks : List Job) : (s.doing js).push ks = s.doing (ks ++ js) := rfl

theorem State.doing_same {s : State} {js : List Job} (h : s.agenda = js) : s.doing js = s := by
  rw [← h]; rfl

end doing

/-- A settled state at the beginning of an act. -/
theorem Settled.push_arbiter {s : State} (hs : Settled s) : s.push [.arbiter] = s.doing [.arbiter] := by
  simp only [State.push, State.doing, hs.agenda, List.append_nil]

/-- The rule at the front of the agenda is taken and leads to a state that is known. -/
theorem Leads.next {n : Nat} {s t u : State} {j : Job} {rest : List Job}
    (hd : doJob j (s.doing rest) = u) (h' : Leads n u t) (hj : j.isLater = false := by rfl) :
    Leads (n + 1) (s.doing (j :: rest)) t :=
  Leads.step rfl hj (hd ▸ h')

/-- The rule at the front of the agenda is taken. -/
theorem Leads.job {n : Nat} {s t : State} {j : Job} {rest : List Job}
    (h : Leads n (doJob j (s.doing rest)) t) (hj : j.isLater = false := by rfl) :
    Leads (n + 1) (s.doing (j :: rest)) t :=
  .next rfl h hj

/-- With nobody waiting for the pool, serving the list does nothing (R143). -/
theorem Leads.serve {n : Nat} {s t : State} {js : List Job} (hw : s.pool.waiting = [])
    (h : Leads n (s.doing js) t) : Leads (n + 1) (s.doing (.serve :: js)) t :=
  .next (serve_alone hw) h

/-- A command's act, followed until only the arbiter's decision is left, with trunk-out busy. -/
theorem State.act_ends {n : Nat} {s t : State} {f : State → State} (hs : Settled s)
    (h : Leads n (f (s.doing [.arbiter])) (t.doing [.arbiter])) (hn : n ≤ 4294967295)
    (hb : t.tx.isSome = true) (ha : t.agenda = []) : s.act f = .next t := by
  rw [State.act_live hs.live, hs.push_arbiter]
  congr 1
  have hdone : t.doing [] = t := State.doing_same ha
  have hlast : Leads 1 (t.doing [.arbiter]) t :=
    .next (u := t) (hdone ▸ arbitrate_busy hb) (.refl 0 t)
  exact (h.trans hlast).carryOut (by omega) ha

/-! ### Acceptance and drop reports (R45 to R49) -/

theorem State.judge_closed {s : State} {c : Chan} (h : s.link c = none) :
    s.judge c = .inl .closed := by
  simp only [State.judge, h]

theorem State.judge_draining {s : State} {c : Chan} {l : Link} (h : s.link c = some l)
    (hd : l.isDraining = true) : s.judge c = .inl .closing := by
  simp only [State.judge, h, hd, if_true]

theorem State.judge_inbound {s : State} {c : Chan} {l : Link} {i : InSettings}
    (h : s.link c = some l) (hd : l.isDraining = false) (hi : l.dir = .inbound i) :
    s.judge c = .inl .direction := by
  simp [State.judge, h, hd, hi]

theorem State.judge_outbound {s : State} {c : Chan} {l : Link} {limit k : Nat}
    (h : s.link c = some l) (hd : l.isDraining = false) (ho : l.dir = .outbound limit k) :
    s.judge c = if limit ≤ k + s.credit c then .inl .overdrawn else .inr (l, limit, k) := by
  simp [State.judge, h, hd, ho]

theorem Link.isDraining_of_live {l : Link} (h : l.phase = .opened ∨ ∃ k, l.phase = .halted k) :
    l.isDraining = false := by
  rcases h with h | ⟨k, h⟩ <;> simp [Link.isDraining, h]

/-- Settles O18: under the credit law the test of an OUT channel's credit is the equality of the table. -/
theorem acceptanceTable : Obligations.AcceptanceTable := by
  unfold Obligations.AcceptanceTable
  intro s c hlaw
  refine ⟨State.judge_closed, fun l hl => ⟨fun m a b hp => ?_, fun hp => ?_⟩⟩
  · exact State.judge_draining hl (by simp [Link.isDraining, hp])
  · have hd := Link.isDraining_of_live hp
    refine ⟨fun i hi => State.judge_inbound hl hd hi, fun limit k ho => ?_⟩
    have hcredit := (creditLaw_iff s).mp hlaw c
    rw [hl, creditWithin_outbound ho] at hcredit
    rw [State.judge_outbound hl hd ho]
    exact ⟨fun h => if_pos h.ge, fun h => if_neg (by omega)⟩

/-- The acceptance test accepts exactly an OUT channel, OPEN or HALTED, below its limit. -/
theorem State.judge_accepts_iff {s : State} {c : Chan} :
    (∃ x, s.judge c = .inr x) ↔ ∃ l limit k, s.link c = some l ∧ l.isDraining = false ∧
      l.dir = .outbound limit k ∧ k + s.credit c < limit := by
  constructor
  · rintro ⟨⟨l, limit, k⟩, h⟩
    exact ⟨l, limit, k, State.judge_accepts h⟩
  · rintro ⟨l, limit, k, hl, hd, ho, hlt⟩
    exact ⟨(l, limit, k), by rw [State.judge_outbound hl hd ho, if_neg (by omega)]⟩

/-- A drop makes its record at once and is counted (R48), outside an execution. -/
theorem acceptanceDrop_now {s : State} (h : s.engine.records = none) (c : Chan) (r : DropReason) :
    acceptanceDrop c r s =
      { s.setChannel c { s.channel c with drops := satInc (s.channel c).drops } with
        notices := s.notices.arrive (.drop c r) } := by
  rw [acceptanceDrop, State.record_now h]
  rfl

theorem dropReport_credited {s : State} {c : Chan} (h : ∃ x, s.judge c = .inr x) (r : DropReason) :
    dropReport c r s = { acceptanceDrop c r s with
      notices := (acceptanceDrop c r s).notices.addCredit c } := by
  obtain ⟨x, hx⟩ := h
  simp only [dropReport, hx]

theorem dropReport_uncredited {s : State} {c : Chan} (h : ¬ ∃ x, s.judge c = .inr x)
    (r : DropReason) : dropReport c r s = acceptanceDrop c r s := by
  cases hj : s.judge c with
  | inl reason => simp only [dropReport, hj]
  | inr x => exact absurd ⟨x, hj⟩ h

/-- Settles O19: a drop report is a drop, with a credit exactly where the acceptance test accepts. -/
theorem dropReportReturnsCredit : Obligations.DropReportReturnsCredit := by
  unfold Obligations.DropReportReturnsCredit
  intro s c r hrec nb x t
  have hdrop : acceptanceDrop c r s = { t with notices := nb } := acceptanceDrop_now hrec c r
  constructor
  · intro h
    have hreport : dropReport c r s = { t with notices := nb.addCredit c } := by
      rw [dropReport_credited (State.judge_accepts_iff.mpr h), hdrop]
    refine ⟨hreport, ?_⟩
    rw [hreport]
    exact (Notices.addCredit_credit nb c c).trans (by simp [nb, State.credit])
  · intro h
    rw [dropReport_uncredited (fun hx => h (State.judge_accepts_iff.mp hx)), hdrop]

/-! ### Parcels (R3, R18) -/

/-- The check brings the sum to 0 (R3). -/
theorem sum_with_check (l : List Byte) : (l ++ [checkOf l]).foldl (· + ·) 0 = 0 := by
  rw [List.foldl_append]
  show l.foldl (· + ·) 0 + -(l.foldl (· + ·) 0) = 0
  exact BitVec.add_right_neg _

/-- Settles O24: the beats are the head and the check that the head needs. -/
theorem parcelBeatsSumToZero : Obligations.ParcelBeatsSumToZero := by
  unfold Obligations.ParcelBeatsSumToZero
  intro p
  exact ⟨⟨checkOf (p.tag :: byteOf p.body.length :: p.body), rfl⟩, by simp [Parcel.beats],
    sum_with_check _⟩

end Sys2Proof.Machine
end

section
/-! The Trunk Receiver (01, sections 1.1 to 1.8): the judgement of each beat. -/

namespace Sys2Proof.Machine

-- the proofs are elaborated one after another: all at once they ask for too many threads
set_option Elab.async false

/-! ### A beat is latched (R1) -/

theorem latchBeat_eq (m : Bool) (d : Byte) (s : State) : latchBeat m d s = rxBeat m d (s.latched m d) := by
  have hstopped : (if s.inReset then .stopped else s.rx.breakTimer.follow m true) = .stopped := by
    simp [BreakTimer.follow]
  simp only [latchBeat, State.moveTrunkIn, State.latched, hstopped]

/-- A beat that rises in a settled state goes to the receiver (R1). -/
theorem exec_trunkInBeat {s : State} (hs : Settled s) (hq : s.trunkIn.tirq = false) (m : Bool)
    (d : Byte) : exec (.trunkInBeat m d) s = s.act (fun t => rxBeat m d (t.latched m d)) := by
  show execTrunkInBeat m d s = _
  simp [execTrunkInBeat, hs.live, hq, funext (latchBeat_eq m d)]

/-- What a beat leads to in a settled state. -/
theorem exec_trunkInBeat_leads {n : Nat} {s t : State} {m : Bool} {d : Byte} (hs : Settled s)
    (hq : s.trunkIn.tirq = false)
    (h : Leads n (rxBeat m d ((s.latched m d).doing [.arbiter])) (t.doing [.arbiter]))
    (hn : n ≤ 4294967295) (hb : t.tx.isSome = true) (ha : t.agenda = []) :
    exec (.trunkInBeat m d) s = .next t := by
  rw [exec_trunkInBeat hs hq]
  exact State.act_ends hs h hn hb ha

/-- A beat whose judgement leaves no rule to take. -/
theorem exec_trunkInBeat_quiet {s t : State} {m : Bool} {d : Byte} (hs : Settled s)
    (hq : s.trunkIn.tirq = false)
    (h : rxBeat m d ((s.latched m d).doing [.arbiter]) = t.doing [.arbiter])
    (hb : t.tx.isSome = true) (ha : t.agenda = []) : exec (.trunkInBeat m d) s = .next t :=
  exec_trunkInBeat_leads hs hq (.of_eq h) (Nat.zero_le _) hb ha

/-! ### The claims of the receiver (R4, R136) -/

theorem chanOf_isSome_iff (b : Byte) : (chanOf b).isSome = true ↔ 1 ≤ b.toNat ∧ b.toNat ≤ 47 := by
  unfold chanOf
  split <;> simp_all

theorem byte_eq_zero_iff (b : Byte) : b = 0 ↔ b.toNat = 0 :=
  ⟨fun h => h ▸ rfl, fun h => BitVec.eq_of_toNat_eq h⟩

theorem State.claimRx_management {s : State} {tag : Byte} (h : tag.toNat = 0) (d k : Nat) :
    s.claimRx tag d k = s.pool.claimManagement d k := if_pos ((byte_eq_zero_iff tag).mpr h)

theorem State.claimRx_ordinary {s : State} {tag : Byte} (h1 : 1 ≤ tag.toNat) (h47 : tag.toNat ≤ 47)
    (d k : Nat) : s.claimRx tag d k = s.pool.claimOrdinary d k := by
  have h0 : ¬ tag = 0 := fun e => by rw [byte_eq_zero_iff] at e; omega
  simp only [State.claimRx, if_neg h0, if_pos ((chanOf_isSome_iff tag).mpr ⟨h1, h47⟩)]

theorem State.claimRx_unused {s : State} {tag : Byte} (h : 48 ≤ tag.toNat) (d k : Nat) :
    s.claimRx tag d k = none := by
  have h0 : ¬ tag = 0 := fun e => by rw [byte_eq_zero_iff] at e; omega
  have hc : ¬ (chanOf tag).isSome = true := fun e => by rw [chanOf_isSome_iff] at e; omega
  simp only [State.claimRx, if_neg h0, if_neg hc]

theorem Pool.ordinaryFits_iff (p : Pool) (d k : Nat) :
    p.ordinaryFits d k = true ↔
      k + (64 - p.mgmtCells) ≤ p.freeCells ∧ d + (8 - p.mgmtDescriptors) ≤ p.freeDescriptors := by
  simp [Pool.ordinaryFits]

/-- An ordinary claim for something is granted, with nobody waiting, exactly where the unused reserve is
left over (R137). -/
theorem Pool.claimOrdinary_granted {p : Pool} {d k : Nat} (hw : p.waiting = [])
    (hc : k + (64 - p.mgmtCells) ≤ p.freeCells) (hd : d + (8 - p.mgmtDescriptors) ≤ p.freeDescriptors) :
    p.claimOrdinary d k = some (p.take d k) := by
  unfold Pool.claimOrdinary
  split
  · rename_i h0; rw [h0.1, h0.2]; rfl
  · rw [if_pos ⟨hw, (Pool.ordinaryFits_iff p d k).mpr ⟨hc, hd⟩⟩]

theorem Pool.claimOrdinary_refused {p : Pool} {d k : Nat} (h0 : 0 < d + k)
    (h : p.freeCells < k + (64 - p.mgmtCells) ∨ p.freeDescriptors < d + (8 - p.mgmtDescriptors)) :
    p.claimOrdinary d k = none := by
  unfold Pool.claimOrdinary
  rw [if_neg (by omega), if_neg]
  rintro ⟨-, hf⟩
  rw [Pool.ordinaryFits_iff] at hf
  omega

theorem Pool.claimManagement_granted {p : Pool} {d k : Nat} (hd : d ≤ p.freeDescriptors)
    (hk : k ≤ p.freeCells) : p.claimManagement d k = some { p.take d k with
      mgmtCells := p.mgmtCells + k, mgmtDescriptors := p.mgmtDescriptors + d } := if_pos ⟨hd, hk⟩

theorem Pool.claimManagement_refused {p : Pool} {d k : Nat}
    (h : p.freeDescriptors < d ∨ p.freeCells < k) : p.claimManagement d k = none :=
  if_neg (by omega)

/-! ### Outside a parcel (R4) -/

/-- The tag of a new parcel: its storage is what its claim gives (R4). -/
theorem takeTag_eq (d : Byte) (s : State) : takeTag d s = { s with
    pool := (s.claimRx d 1 0).getD s.pool
    rx := { s.rx with
      sum := d, gapTimer := some s.rx.gapLimit
      state := .length { tag := d, len := 0, count := 0, stored := (s.claimRx d 1 0).map fun _ => []
                         first := [], gapLimit := s.rx.gapLimit } } } := by
  unfold takeTag
  cases s.claimRx d 1 0 <;> rfl

theorem rxBeat_stray {s : State} (h : s.rx.state = .hunt) (d : Byte) :
    rxBeat false d s = s.countTrunk fun k => { k with stray := satInc k.stray } := by
  simp only [rxBeat, h]

theorem rxBeat_passed {s : State} (h : s.rx.state = .discard) (d : Byte) : rxBeat false d s = s := by
  simp only [rxBeat, h]

theorem rxBeat_tag {s : State} (h : s.rx.state = .hunt ∨ s.rx.state = .discard) (d : Byte) :
    rxBeat true d s = takeTag d s := by
  rcases h with h | h <;> simp only [rxBeat, h]

/-- Settles O12: the receiver's state gives the branch, and the tag's claim gives the storage. -/
theorem beatOutsideAParcel : Obligations.BeatOutsideAParcel := by
  unfold Obligations.BeatOutsideAParcel
  intro s d hs hq
  refine ⟨fun hst => ?_, fun hst => ?_, fun hst => ?_⟩
  · exact exec_trunkInBeat_quiet hs hq (rxBeat_stray (by exact hst) d) hs.busy hs.agenda
  · exact exec_trunkInBeat_quiet hs hq (rxBeat_passed (by exact hst) d) hs.busy hs.agenda
  · refine ⟨(s.claimRx d 1 0).map fun _ => [], (s.claimRx d 1 0).getD s.pool, ?_, ?_, ?_, ?_⟩
    · refine exec_trunkInBeat_quiet hs hq ?_ hs.busy hs.agenda
      rw [rxBeat_tag (by exact hst), takeTag_eq]
      rfl
    · intro h0
      rw [State.claimRx_management h0]
      refine ⟨fun h1 => ?_, fun h => ?_⟩
      · rw [Pool.claimManagement_granted h1 (Nat.zero_le _)]
        exact ⟨rfl, rfl⟩
      · rw [Pool.claimManagement_refused (by omega)]
        exact ⟨rfl, rfl⟩
    · intro h1 h47
      rw [State.claimRx_ordinary h1 h47]
      refine ⟨fun hd hc => ?_, fun h => ?_⟩
      · rw [Pool.claimOrdinary_granted hs.alone (by omega) hd]
        exact ⟨rfl, rfl⟩
      · rw [Pool.claimOrdinary_refused (by omega) (by omega)]
        exact ⟨rfl, rfl⟩
    · intro h48
      rw [State.claimRx_unused h48]
      exact ⟨rfl, rfl⟩

/-! ### A parcel that is given up (R11, R13, R49) -/

/-- A drop report puts nothing on the agenda. -/
theorem dropReport_doing (c : Chan) (r : DropReason) (s : State) (js : List Job) :
    dropReport c r (s.doing js) = (dropReport c r s).doing js := by
  have hj : State.judge (s.doing js) c = s.judge c := rfl
  unfold dropReport acceptanceDrop State.record
  rw [hj, State.doing_engine]
  cases s.engine.records <;> cases s.judge c <;> rfl

/-- A drop report changes one entry, the Notice Builder and the records of the execution in progress. -/
theorem dropReport_frame (c : Chan) (r : DropReason) (s : State) :
    (dropReport c r s).tx = s.tx ∧ (dropReport c r s).agenda = s.agenda := by
  unfold dropReport acceptanceDrop State.record
  cases s.engine.records <;> cases s.judge c <;> exact ⟨rfl, rfl⟩

/-- What giving up a parcel returns to the pool (R11, R141). -/
def Pool.afterReception (p : Pool) (x : Reception) : Pool :=
  match x.stored with
  | none => p
  | some bs => p.put (x.tag = 0) 1 (cellsFor bs.length)

theorem State.abandoned_eq (s : State) (p : Reception) (r : DropReason) :
    s.abandoned p r = match chanOf p.tag with
      | none => { s with pool := s.pool.afterReception p }
      | some c => dropReport c r { s with pool := s.pool.afterReception p } := rfl

theorem State.abandoned_doing (s : State) (p : Reception) (r : DropReason) (js : List Job) :
    (s.doing js).abandoned p r = (s.abandoned p r).doing js := by
  rw [State.abandoned_eq, State.abandoned_eq]
  cases chanOf p.tag with
  | none => rfl
  | some c => exact dropReport_doing c r { s with pool := s.pool.afterReception p } js

theorem State.abandoned_frame (s : State) (p : Reception) (r : DropReason) :
    (s.abandoned p r).tx = s.tx ∧ (s.abandoned p r).agenda = s.agenda := by
  rw [State.abandoned_eq]
  cases chanOf p.tag with
  | none => exact ⟨rfl, rfl⟩
  | some c => exact dropReport_frame c r _

/-- The drop report of a parcel that is given up, acted on (R49). -/
theorem dropReportOf_leads (s : State) (tag : Byte) (r : DropReason) (js : List Job) :
    Leads 1 (s.doing (dropReportOf tag r ++ js))
      ((match chanOf tag with | none => s | some c => dropReport c r s).doing js) := by
  unfold dropReportOf
  cases chanOf tag with
  | none => exact .refl 1 _
  | some c => exact .next (dropReport_doing c r s js) (.refl 0 _)

/-- Giving up a parcel: its storage goes back, the pool finds nobody waiting, and the drop report is
acted on; what was put behind them comes next. -/
theorem freeReception_leads {s : State} (hw : s.pool.waiting = []) (p : Reception) (r : DropReason)
    (js : List Job) :
    Leads 2 ((s.doing (dropReportOf p.tag r ++ js)).freeReception p) ((s.abandoned p r).doing js) := by
  have hreport := dropReportOf_leads { s with pool := s.pool.afterReception p } p.tag r js
  unfold State.freeReception
  unfold Pool.afterReception at hreport
  rw [State.abandoned_eq, Pool.afterReception]
  cases hst : p.stored with
  | none =>
    rw [hst] at hreport
    exact Leads.trans (n := 1) (m := 1) hreport (.refl 1 _)
  | some bs =>
    rw [hst] at hreport
    exact Leads.serve (s := { s with pool := s.pool.put (p.tag = 0) 1 (cellsFor bs.length) })
      (by simpa using hw) hreport

/-- A beat that gives the parcel up. -/
theorem exec_trunkInBeat_abandons {s t : State} {m : Bool} {d : Byte} {p : Reception}
    {r : DropReason} (hs : Settled s) (hq : s.trunkIn.tirq = false)
    (h : rxBeat m d ((s.latched m d).doing [.arbiter]) =
      (t.doing (dropReportOf p.tag r ++ [.arbiter])).freeReception p)
    (hw : t.pool.waiting = []) (hb : t.tx.isSome = true) (ha : t.agenda = []) :
    exec (.trunkInBeat m d) s = .next (t.abandoned p r) := by
  obtain ⟨htx, hagenda⟩ := t.abandoned_frame p r
  refine exec_trunkInBeat_leads hs hq (h ▸ freeReception_leads hw p r [.arbiter]) (by norm_num)
    (htx ▸ hb) (hagenda.trans ha)

/-! ### Within a parcel (R5 to R10) -/

theorem rxBeat_length {s : State} {p : Reception} (h : s.rx.state = .length p) (d : Byte) :
    rxBeat false d s = lengthBeat p d s := by
  simp only [rxBeat, h]

theorem rxBeat_body {s : State} {p : Reception} (h : s.rx.state = .body p) (d : Byte) :
    rxBeat false d s = bodyBeat p d s := by
  simp only [rxBeat, h]

theorem rxBeat_check {s : State} {p : Reception} (h : s.rx.state = .check p) (d : Byte) :
    rxBeat false d s = checkBeat p d s := by
  simp only [rxBeat, h]

theorem rxBeat_broken {s : State} {p : Reception}
    (h : s.rx.state = .length p ∨ s.rx.state = .body p ∨ s.rx.state = .check p) (d : Byte) :
    rxBeat true d s = framingFault p d s := by
  rcases h with h | h | h <;> simp only [rxBeat, h]

/-- Settles O13: the three ranges of the length byte are the branches of the rule, and a length error
gives the parcel up. -/
theorem lengthBeat_leads : Obligations.LengthBeat := by
  unfold Obligations.LengthBeat
  intro s d p hs hq hst
  refine ⟨fun h0 => ?_, fun h1 h240 => ?_, fun h241 => ?_⟩
  · refine exec_trunkInBeat_quiet hs hq ?_ hs.busy hs.agenda
    rw [rxBeat_length (by exact hst), lengthBeat, if_neg (by simp; omega),
      if_pos ((byte_eq_zero_iff d).mpr h0)]
    rfl
  · have hne : ¬ d = 0 := fun e => by rw [byte_eq_zero_iff] at e; omega
    refine exec_trunkInBeat_quiet hs hq ?_ hs.busy hs.agenda
    rw [rxBeat_length (by exact hst), lengthBeat, if_neg (by simp; omega), if_neg hne]
    rfl
  · refine exec_trunkInBeat_abandons hs hq ?_ hs.alone hs.busy hs.agenda
    rw [rxBeat_length (by exact hst), lengthBeat, if_pos (show 240 < d.toNat by omega)]
    rfl

/-- Settles O14: a byte that needs no cell, one whose cell is granted, and one whose cell is refused. -/
theorem bodyBeat_leads : Obligations.BodyBeat := by
  unfold Obligations.BodyBeat
  intro s d p hs hq hst
  have hrun : ∀ {n : Nat} {t : State}, t.tx.isSome = true → t.agenda = [] → n ≤ 4294967295 →
      Leads n (bodyBeat p d ((s.latched false d).doing [.arbiter])) (t.doing [.arbiter]) →
      exec (.trunkInBeat false d) s = .next t := fun hb ha hn h =>
    exec_trunkInBeat_leads hs hq (by rw [rxBeat_body (by exact hst)]; exact h) hn hb ha
  cases hp : p.stored with
  | none =>
    refine ⟨none, s.pool, hrun hs.busy hs.agenda (Nat.zero_le _) (.of_eq ?_), by simp, by simp⟩
    simp only [bodyBeat, hp]
    rfl
  | some bs =>
    by_cases hcell : p.count % 32 = 0
    · cases hclaim : s.claimRx p.tag 0 1 with
      | none =>
        refine ⟨none, s.pool.put (p.tag = 0) 1 (cellsFor bs.length), hrun (n := 1) hs.busy hs.agenda
          (by norm_num) ?_, by simp, by simp [hcell]⟩
        have hclaim' : State.claimRx ((s.latched false d).doing [.arbiter]) p.tag 0 1 = none := hclaim
        simp only [bodyBeat, hp, if_pos hcell, hclaim', State.freeReception]
        exact .serve (by exact (Pool.put_waiting _ _ _ _).trans hs.alone) (.of_eq rfl)
      | some q =>
        refine ⟨some (bs ++ [d]), q, hrun hs.busy hs.agenda (Nat.zero_le _) (.of_eq ?_), by simp,
          by simp [hcell]⟩
        have hclaim' : State.claimRx ((s.latched false d).doing [.arbiter]) p.tag 0 1 = some q := hclaim
        simp only [bodyBeat, hp, if_pos hcell, hclaim']
        rfl
    · refine ⟨some (bs ++ [d]), s.pool, hrun hs.busy hs.agenda (Nat.zero_le _) (.of_eq ?_), by simp,
        by simp [hcell]⟩
      simp only [bodyBeat, hp, if_neg hcell]
      rfl

/-! ### The check beat (R8) -/

theorem checkBeat_bad {s : State} {p : Reception} {d : Byte} (h : s.rx.sum + d ≠ 0) :
    checkBeat p d s =
      (State.push { s with rx := { s.rx with
        state := .hunt, sum := s.rx.sum + d, gapTimer := none
        counts := { s.rx.counts with check := satInc s.rx.counts.check } } }
        (dropReportOf p.tag .check)).freeReception p := by
  simp only [checkBeat, if_neg h]
  rfl

theorem checkBeat_good {s : State} {p : Reception} {d : Byte} (h : s.rx.sum + d = 0) :
    checkBeat p d s = handOff p { s with rx := { s.rx with
      state := .hunt, sum := s.rx.sum + d, gapTimer := none } } := by
  simp only [checkBeat, if_pos h]
  rfl

theorem handOff_unstored_data {p : Reception} {c : Chan} (hst : p.stored = none)
    (hc : chanOf p.tag = some c) (s : State) : handOff p s = s.push [.dropReport c .noroom] := by
  have h0 : ¬ p.tag = 0 := by
    intro h
    rw [h] at hc
    cases hc
  simp only [handOff, hst, if_neg h0, hc]

theorem handOff_unstored_unused {p : Reception} (hst : p.stored = none) (h48 : 48 ≤ p.tag.toNat)
    (s : State) : handOff p s = s.countTrunk fun k => { k with unknown := satInc k.unknown } := by
  have h0 : ¬ p.tag = 0 := fun e => by rw [byte_eq_zero_iff] at e; omega
  simp only [handOff, hst, if_neg h0, chanOf_eq_none (Or.inr (show 47 < p.tag.toNat by omega))]

theorem handOff_unstored_request {p : Reception} (hst : p.stored = none) (h0 : p.tag = 0)
    (s : State) : handOff p s = lostRequest p.first s := by
  simp only [handOff, hst, if_pos h0]

theorem handOff_stored_data {p : Reception} {c : Chan} {bs : List Byte} (hst : p.stored = some bs)
    (hc : chanOf p.tag = some c) (s : State) : handOff p s = s.push [.acceptance c bs] := by
  simp only [handOff, hst, hc]

theorem handOff_stored_request {p : Reception} {bs : List Byte} (hst : p.stored = some bs)
    (h0 : p.tag = 0) (s : State) : handOff p s = s.push [.arrival bs] := by
  have hc : chanOf p.tag = none := chanOf_eq_none (by rw [h0]; decide)
  simp only [handOff, hst, hc]

/-- A lost request of two body bytes or more makes its record at once (R13), outside an execution. -/
theorem lostRequest_now {s : State} (h : s.engine.records = none) (code seq : Byte)
    (more : List Byte) : lostRequest (code :: seq :: more) s = { s with
      notices := s.notices.arrive (.reqlost code seq)
      engine := { s.engine with
        counts := { s.engine.counts with lost := satInc s.engine.counts.lost } } } := by
  simp only [lostRequest, State.record_now h]

theorem lostRequest_short {first : List Byte} (h : first.length < 2) (s : State) :
    lostRequest first s = { s with engine := { s.engine with
      counts := { s.engine.counts with malformed := satInc s.engine.counts.malformed } } } := by
  match first, h with
  | [], _ => rfl
  | [_], _ => rfl

/-- Settles O15: a failed check gives the parcel up; one that holds is judged by what was stored and by
the tag. -/
theorem checkBeatOfAnUndeliveredParcel : Obligations.CheckBeatOfAnUndeliveredParcel := by
  unfold Obligations.CheckBeatOfAnUndeliveredParcel
  intro s d p hs hq hst hrec rx
  have hcheck : rxBeat false d ((s.latched false d).doing [.arbiter]) =
      checkBeat p d ((s.latched false d).doing [.arbiter]) := rxBeat_check (by exact hst) d
  refine ⟨fun hbad => ?_, fun hgood hnone => ?_⟩
  · refine exec_trunkInBeat_abandons hs hq ?_ hs.alone hs.busy hs.agenda
    rw [hcheck, checkBeat_bad (by exact hbad)]
    rfl
  · have hhand : rxBeat false d ((s.latched false d).doing [.arbiter]) =
        handOff p ({ s.latched false d with rx := rx }.doing [.arbiter]) := by
      rw [hcheck, checkBeat_good (by exact hgood)]
      rfl
    refine ⟨fun c hc => ?_, fun h48 => ?_, fun h0 => ⟨fun code seq more hf => ?_, fun hshort => ?_⟩⟩
    · obtain ⟨htx, hagenda⟩ := dropReport_frame c .noroom { s.latched false d with rx := rx }
      refine exec_trunkInBeat_leads (n := 1) hs hq ?_ (by norm_num)
        (htx.symm ▸ hs.busy) (hagenda.trans hs.agenda)
      rw [hhand, handOff_unstored_data hnone hc]
      exact .job (.of_eq (dropReport_doing c .noroom { s.latched false d with rx := rx } [.arbiter]))
    · refine exec_trunkInBeat_quiet hs hq ?_ hs.busy hs.agenda
      rw [hhand, handOff_unstored_unused hnone h48]
      rfl
    · refine exec_trunkInBeat_quiet hs hq ?_ hs.busy hs.agenda
      rw [hhand, handOff_unstored_request hnone h0, hf, lostRequest_now (by exact hrec)]
      rfl
    · refine exec_trunkInBeat_quiet hs hq ?_ hs.busy hs.agenda
      rw [hhand, handOff_unstored_request hnone h0, lostRequest_short hshort]
      rfl

/-- A good data parcel with storage goes to the acceptance test (R12). -/
theorem exec_trunkInBeat_accepts {n : Nat} {s t : State} {d : Byte} {p : Reception} {c : Chan}
    {bs : List Byte} (hs : Settled s) (hq : s.trunkIn.tirq = false) (hst : s.rx.state = .check p)
    (hsum : s.rx.sum + d = 0) (hc : chanOf p.tag = some c) (hbs : p.stored = some bs)
    (h : Leads n (acceptance c bs (State.doing { s.latched false d with
      rx := { s.rx with breakTimer := .stopped, sum := 0, gapTimer := none, state := .hunt } }
        [.arbiter])) (t.doing [.arbiter]))
    (hn : n ≤ 4294967294) (hb : t.tx.isSome = true) (ha : t.agenda = []) :
    exec (.trunkInBeat false d) s = .next t := by
  refine exec_trunkInBeat_leads (n := n + 1) hs hq ?_ (by omega) hb ha
  rw [rxBeat_check (by exact hst), checkBeat_good (by exact hsum), handOff_stored_data hbs hc]
  refine .next (rest := [.arbiter]) ?_ h
  show acceptance c bs _ = _
  rw [← hsum]
  rfl

theorem acceptance_drops {s : State} {c : Chan} {r : DropReason} (h : s.judge c = .inl r)
    (body : List Byte) : acceptance c body s =
      (s.push [.acceptanceDrop c r]).giveBack false 1 (cellsFor body.length) := by
  simp only [acceptance, h]

/-- Settles O17: the storage goes back, and the drop makes its record and its count. -/
theorem goodDataParcelDropped : Obligations.GoodDataParcelDropped := by
  unfold Obligations.GoodDataParcelDropped
  intro s d p c bs r hs hq hst hsum hc hbs hj hrec
  refine exec_trunkInBeat_accepts (n := 2) hs hq hst hsum hc hbs ?_ (by norm_num) hs.busy hs.agenda
  rw [acceptance_drops (by exact hj)]
  refine .serve (by exact (Pool.put_waiting _ _ _ _).trans hs.alone) ?_
  exact .job (rest := [.arbiter]) (.of_eq ((acceptanceDrop_now (by exact hrec) c r).trans rfl))

/-! ### A parcel broken off (R9, R10) -/

theorem takeTag_doing (d : Byte) (s : State) (js : List Job) :
    takeTag d (s.doing js) = (takeTag d s).doing js := by
  rw [takeTag_eq, takeTag_eq]
  rfl

theorem takeTag_frame (d : Byte) (s : State) :
    (takeTag d s).tx = s.tx ∧ (takeTag d s).agenda = s.agenda := by
  rw [takeTag_eq]
  exact ⟨rfl, rfl⟩

/-- A framing fault gives the parcel up, and the beat is then the tag of a new one (R9). -/
theorem exec_trunkInBeat_breaks {s t : State} {d : Byte} {p : Reception} (hs : Settled s)
    (hq : s.trunkIn.tirq = false)
    (h : rxBeat true d ((s.latched true d).doing [.arbiter]) =
      (t.doing (dropReportOf p.tag .truncated ++ [.takeTag d, .arbiter])).freeReception p)
    (hw : t.pool.waiting = []) (hb : t.tx.isSome = true) (ha : t.agenda = []) :
    exec (.trunkInBeat true d) s = .next (takeTag d (t.abandoned p .truncated)) := by
  obtain ⟨htx, hagenda⟩ := t.abandoned_frame p .truncated
  obtain ⟨htx', hagenda'⟩ := takeTag_frame d (t.abandoned p .truncated)
  refine exec_trunkInBeat_leads (n := 2 + 1) hs hq ?_ (by norm_num) ?_ ?_
  · rw [h]
    exact (freeReception_leads hw p .truncated [.takeTag d, .arbiter]).trans
      (.job (.of_eq (takeTag_doing d (t.abandoned p .truncated) [.arbiter])))
  · rw [htx', htx]; exact hb
  · rw [hagenda', hagenda]; exact ha

/-- A gap expiry that gives the parcel up (R10). -/
theorem exec_gapTimerExpiry_abandons {s t : State} {p : Reception} (hs : Settled s)
    (h : gapExpiry (s.doing [.arbiter]) =
      (t.doing (dropReportOf p.tag .truncated ++ [.arbiter])).freeReception p)
    (hw : t.pool.waiting = []) (hb : t.tx.isSome = true) (ha : t.agenda = []) :
    exec .gapTimerExpiry s = .next (t.abandoned p .truncated) := by
  obtain ⟨htx, hagenda⟩ := t.abandoned_frame p .truncated
  exact State.act_ends hs (h ▸ freeReception_leads hw p .truncated [.arbiter]) (by norm_num)
    (htx.symm ▸ hb) (hagenda.trans ha)

/-- Settles O20: a framing fault and a gap error both give the parcel up, and a MARK beat is then the
tag of a new one. -/
theorem parcelBrokenOff : Obligations.ParcelBrokenOff := by
  unfold Obligations.ParcelBrokenOff
  intro s d limit p hs hst
  have hcurrent : s.rx.current = some p := by
    rcases hst with h | h | h <;> simp only [Receiver.current, h]
  refine ⟨fun hq => ?_, fun hgap => ?_⟩
  · refine exec_trunkInBeat_breaks hs hq ?_ hs.alone hs.busy hs.agenda
    rw [rxBeat_broken (by exact hst), framingFault]
    simp only [State.push, State.doing, List.append_assoc]
    rfl
  · refine exec_gapTimerExpiry_abandons hs ?_ hs.alone hs.busy hs.agenda
    simp only [gapExpiry, State.doing_rx, hgap, hcurrent]
    rfl

end Sys2Proof.Machine
end

section
/-! The trunk's lines and timers, and the return path (01, sections 1.8 and 1.10; 06): the break, the
handshake of trunk-out, what a notice carries, and the order of the grant. -/

namespace Sys2Proof.Machine

-- the proofs are elaborated one after another: all at once they ask for too many threads
set_option Elab.async false

/-! ### TIRQ, TIMK and the break (R1, R15, R16) -/

theorem BreakTimer.follow_low (t : BreakTimer) (m : Bool) :
    t.follow m false = if m = true then (if t = .stopped then .running else t) else .stopped := by
  cases m <;> cases t <;> rfl

theorem BreakTimer.follow_high (t : BreakTimer) (m : Bool) : t.follow m true = .stopped := by
  cases m <;> rfl

/-- A settled state in which a command only moves levels. -/
theorem State.act_levels {s t : State} {f : State → State} (hs : Settled s)
    (h : f (s.doing [.arbiter]) = t.doing [.arbiter]) (hb : t.tx.isSome = true) (ha : t.agenda = []) :
    s.act f = .next t := State.act_ends (n := 0) hs (.of_eq h) (by norm_num) hb ha

/-- TIRQ deasserted ends the beat, and the break timer follows (R1, R15). -/
theorem dropRequest_eq {s : State} (h : s.inReset = false) (m : Bool) : dropRequest m s = { s with
    trunkIn := { s.trunkIn with timk := m, tirq := false, tiak := false }
    rx := { s.rx with breakTimer :=
      if m = true then (if s.rx.breakTimer = .stopped then .running else s.rx.breakTimer)
      else .stopped } } := by
  simp only [dropRequest, State.moveTrunkIn, h, Bool.false_eq_true, if_false, BreakTimer.follow_low]

/-- TIRQ asserted again latches nothing more (log 5), and stops the break timer (R15). -/
theorem State.moveTrunkIn_high {s : State} (h : s.inReset = false) (m : Bool) (d : Byte) :
    s.moveTrunkIn d m true = { s with
      trunkIn := { s.trunkIn with tid := d, timk := m, tirq := true }
      rx := { s.rx with breakTimer := .stopped } } := by
  simp only [State.moveTrunkIn, h, Bool.false_eq_true, if_false, BreakTimer.follow_high]

/-- Settles O21: each command moves levels and has the break timer follow them, or is the beat of R1. -/
theorem trunkInLevels : Obligations.TrunkInLevels := by
  unfold Obligations.TrunkInLevels
  intro s m hs fell
  have hfell : ∀ m : Bool, s.act (dropRequest m) = .next (fell m) := fun m =>
    State.act_levels hs (dropRequest_eq (by exact hs.live) m) hs.busy hs.agenda
  refine ⟨?_, ?_, fun hq => ?_, fun hq => ?_⟩
  · show execTirqDeasserted s = _
    rw [execTirqDeasserted, if_neg (by simp [hs.live]), hfell]
  · show execBreakConditionChange m false s = _
    rw [execBreakConditionChange, if_neg (by simp [hs.live])]
    exact hfell m
  · show execBreakConditionChange m true s = _
    rw [execBreakConditionChange, if_neg (by simp [hs.live]), if_pos rfl, if_pos hq]
    exact State.act_levels hs (State.moveTrunkIn_high (by exact hs.live) m s.trunkIn.tid) hs.busy
      hs.agenda
  · show execBreakConditionChange m true s = execTrunkInBeat m s.trunkIn.tid s
    simp [execBreakConditionChange, execTrunkInBeat, hs.live, hq]

theorem satInc_byte (x : Byte) : satInc x = if x = 255 then 255 else x + 1 := by
  unfold satInc
  have hones : BitVec.allOnes 8 = 255 := by decide
  rw [hones]
  split <;> simp_all

/-- What the pool holds once a break has given up the parcel under reception. -/
def Pool.afterBreak (p : Pool) (r : Receiver) : Pool :=
  match r.current with | some x => p.afterReception x | none => p

theorem Pool.afterReception_waiting (p : Pool) (x : Reception) :
    (p.afterReception x).waiting = p.waiting := by
  unfold Pool.afterReception
  split
  · rfl
  · exact Pool.put_waiting _ _ _ _

theorem Pool.afterBreak_waiting (p : Pool) (r : Receiver) : (p.afterBreak r).waiting = p.waiting := by
  unfold Pool.afterBreak
  split
  · exact Pool.afterReception_waiting _ _
  · rfl

theorem Pool.afterBreak_freeDescriptors (p : Pool) (r : Receiver) :
    (p.afterBreak r).freeDescriptors = p.freeDescriptors +
      (match r.current with | some x => if x.stored.isSome then 1 else 0 | none => 0) := by
  unfold Pool.afterBreak
  cases r.current with
  | none => rfl
  | some x =>
    cases hst : x.stored with
    | none => simp [Pool.afterReception, hst]
    | some bs => simp [Pool.afterReception, hst]

/-- The break is declared: the parcel under reception is abandoned without a report (R16). -/
theorem declareBreak_leads {s : State} (hw : s.pool.waiting = []) (h : s.rx.breakTimer = .running)
    (js : List Job) :
    Leads 1 (declareBreak (s.doing js)) (State.doing { s with
      rx := { s.rx with
        state := .hunt, gapTimer := none, breakTimer := .declared
        counts := { s.rx.counts with breaks := satInc s.rx.counts.breaks } }
      pool := s.pool.afterBreak s.rx } (.breakTold :: js)) := by
  simp only [declareBreak, State.doing_rx, h, Pool.afterBreak]
  cases s.rx.current with
  | none => exact .of_eq rfl
  | some x =>
    simp only [State.freeReception, Pool.afterReception]
    cases x.stored with
    | none => exact .of_eq rfl
    | some bs => exact .serve (by exact (Pool.put_waiting _ _ _ _).trans hw) (.of_eq rfl)

/-- The engine's requests once a break has flushed what waits (R180). -/
def Engine.flushed (e : Engine) : Engine := { e with
  requests := (e.requests.take 1).map fun (r : Request) => { r with discard := true }
  remembered := none }

/-- The BREAK record is made and what waits in the engine goes (R16, R180). -/
theorem breakTold_eq {s : State} (hr : s.engine.records = none) (hh : s.engine.hold = false) :
    breakTold s = State.giveBack { s with
      notices := s.notices.arrive .brk, engine := s.engine.flushed } true
      (s.engine.requests.drop 1).length
      (((s.engine.requests.drop 1).map fun (r : Request) => cellsFor (r.params.length + 2)).sum) := by
  simp [breakTold, State.record_now hr, hh, Engine.flushed]

/-- Settles O22: the arrival of a record has the two cases of R123; a break makes one such record after
the parcel is given up and before the flush's storage goes back. -/
theorem trunkBreakDeclared : Obligations.TrunkBreakDeclared := by
  unfold Obligations.TrunkBreakDeclared
  intro arrived
  have harrive : ∀ (nb : Notices) (r : Record), arrived nb (nb.arrive r) r := fun nb r =>
    ⟨fun h => Notices.arrive_room h r, fun h => by
      rw [Notices.arrive_full (Nat.not_lt.mpr h), satInc_byte]⟩
  refine ⟨harrive, fun s hs hb hr hh => ?_⟩
  let u : State := { s with
    rx := { s.rx with
      state := .hunt, gapTimer := none, breakTimer := .declared
      counts := { s.rx.counts with breaks := satInc s.rx.counts.breaks } }
    pool := s.pool.afterBreak s.rx }
  let flushed := s.engine.requests.drop 1
  refine ⟨{ u with
    notices := s.notices.arrive .brk, engine := s.engine.flushed
    pool := u.pool.put true flushed.length
      ((flushed.map fun (r : Request) => cellsFor (r.params.length + 2)).sum) },
    ?_, rfl, harrive _ _, rfl, ?_, rfl, rfl, rfl, rfl, rfl, rfl⟩
  · refine State.act_ends (n := 1 + 2) hs ((declareBreak_leads hs.alone hb [.arbiter]).trans ?_)
      (by norm_num) hs.busy hs.agenda
    refine .job ?_
    show Leads 1 (breakTold (u.doing [.arbiter])) _
    rw [breakTold_eq (by exact hr) (by exact hh)]
    refine .serve ?_ (.of_eq rfl)
    exact (Pool.put_waiting _ _ _ _).trans ((Pool.afterBreak_waiting _ _).trans hs.alone)
  · show (Pool.put _ true flushed.length _).freeDescriptors = _
    rw [Pool.put_freeDescriptors, Pool.afterBreak_freeDescriptors, List.length_drop]
    exact Nat.add_right_comm _ _ _

/-! ### The handshake of trunk-out (R2, R18) -/

/-- Settles O23: the host's edges meet the phase of the beat that waits for them. -/
theorem trunkOutHandshake : Obligations.TrunkOutHandshake := by
  unfold Obligations.TrunkOutHandshake
  intro s t hs htx
  refine ⟨fun hlow hp => ?_, fun hhigh hp hmore => ?_, fun hhigh hp => ?_⟩
  · show execToakAsserted s = _
    rw [execToakAsserted, if_neg (by simp [hs.live])]
    refine State.act_levels hs ?_ rfl hs.agenda
    simp only [ackAsserted, State.doing_trunkOut, State.doing_tx, hlow, htx, hp]
    rfl
  · show execToakDeasserted s = _
    rw [execToakDeasserted, if_neg (by simp [hs.live])]
    refine State.act_levels hs ?_ rfl hs.agenda
    have hfirst : decide (t.beat + 1 = 1) = decide (t.beat = 0) := by simp
    simp only [ackDeasserted, State.doing_trunkOut, State.doing_tx, hhigh, htx, hp, if_true,
      if_pos hmore, State.presentBeat, Nat.add_sub_cancel, hfirst]
    rfl
  · show execToakDeasserted s = _
    rw [execToakDeasserted, if_neg (by simp [hs.live])]
    refine State.act_levels hs ?_ rfl hs.agenda
    simp only [ackDeasserted, State.doing_trunkOut, State.doing_tx, hhigh, htx, hp, if_true,
      State.presentBeat]
    rfl

/-! ### The hold-off timer (R126) -/

/-- Settles O59: with trunk-out busy the expiry only moves the timer. -/
theorem holdOffExpires : Obligations.HoldOffExpires := by
  unfold Obligations.HoldOffExpires
  intro s v hs ht
  refine State.act_levels hs ?_ hs.busy hs.agenda
  simp only [holdOffExpired, State.doing_notices, ht]
  rfl

end Sys2Proof.Machine
end

section
/-! The return path (06): what a notice carries, the order of the grant, and what a parcel boundary and the
two resets bring to trunk-out. -/

namespace Sys2Proof.Machine

-- the proofs are elaborated one after another: all at once they ask for too many threads
set_option Elab.async false

/-! ### What a notice carries (R129 to R132) -/

theorem Record.bytes_length (r : Record) : r.bytes.length = 4 := by cases r <;> rfl

theorem flatMap_bytes_length (l : List Record) : (l.flatMap Record.bytes).length = 4 * l.length := by
  induction l with
  | nil => rfl
  | cons r l ih => rw [List.flatMap_cons, List.length_append, Record.bytes_length, ih, List.length_cons]; omega

theorem Notices.lossRecords_length_le (nb : Notices) : nb.lossRecords.length ≤ 1 := by
  unfold Notices.lossRecords
  split <;> simp

theorem Notices.reported_length_le (nb : Notices) :
    nb.lossRecords.length + nb.reported.length ≤ Config.noticeRecords := by
  have hloss := nb.lossRecords_length_le
  have htake : nb.reported.length ≤ Config.noticeRecords - nb.lossRecords.length :=
    List.length_take_le _ _
  have h16 : Config.noticeRecords = 16 := rfl
  omega

/-- LOSS and CREDIT records always fit, and FIFO records take the room that is left (R129). -/
theorem Notices.nextRecords_eq (nb : Notices) : nb.nextRecords =
    nb.lossRecords ++ nb.reported.map (fun c => Record.credit c nb.credits[c.val]) ++
      nb.fifo.take (Config.noticeRecords - (nb.lossRecords.length + nb.reported.length)) := by
  have hlen : (nb.lossRecords ++ nb.reported.map fun c => Record.credit c nb.credits[c.val]).length =
      nb.lossRecords.length + nb.reported.length := by simp
  have hle := nb.reported_length_le
  rw [Notices.nextRecords, List.take_append, List.take_of_length_le (hlen ▸ hle), hlen]

theorem Notices.nextRecords_length_le (nb : Notices) :
    nb.nextRecords.length ≤ Config.noticeRecords := List.length_take_le _ _

theorem Notices.nextBody_length (nb : Notices) :
    nb.nextBody.length = 1 + 4 * nb.nextRecords.length := by
  rw [Notices.nextBody, List.length_cons, flatMap_bytes_length]
  omega

/-- The counts of the table after the assembly: 0 for the channels that are reported (R129). -/
theorem Notices.clear_credit (l : List Chan) (v : Vector Nat 47) (c : Chan) :
    (l.foldl (fun (v : Vector Nat 47) (c : Chan) => v.set c.val 0) v)[c.val] =
      if c ∈ l then 0 else v[c.val] := by
  induction l generalizing v with
  | nil => simp
  | cons d l ih =>
    rw [List.foldl_cons, ih]
    by_cases hd : c = d
    · subst hd; simp
    · have hv : d.val ≠ c.val := fun e => hd (Fin.ext e.symm)
      simp [hd, hv]

theorem Notices.assembled_credit (nb : Notices) (c : Chan) :
    nb.assembled.credits[c.val] = if c ∈ nb.reported then 0 else nb.credits[c.val] :=
  Notices.clear_credit _ _ c

/-! ### When the notice claimant is eligible (R125, R127) -/

theorem halfLimit_le_iff (limit k : Nat) : halfLimit limit ≤ k ↔ limit ≤ 2 * k := by
  unfold halfLimit
  omega

theorem State.halfReached_iff (s : State) : s.halfReached = true ↔
    ∃ (c : Chan) (l : Link) (limit k : Nat), s.link c = some l ∧ l.dir = .outbound limit k ∧
      0 < s.notices.credits[c.val] ∧ limit ≤ 2 * s.notices.credits[c.val] := by
  simp only [State.halfReached, List.any_eq_true]
  constructor
  · rintro ⟨c, -, h⟩
    cases hl : s.link c with
    | none => simp [hl] at h
    | some l =>
      cases hd : l.dir with
      | inbound i => simp [hl, hd] at h
      | outbound limit k =>
        simp only [hl, hd, Bool.and_eq_true, decide_eq_true_eq, halfLimit_le_iff] at h
        exact ⟨c, l, limit, k, hl, hd, h.1, h.2⟩
  · rintro ⟨c, l, limit, k, hl, hd, hpos, hhalf⟩
    refine ⟨c, List.mem_finRange c, ?_⟩
    simp only [hl, hd, Bool.and_eq_true, decide_eq_true_eq, halfLimit_le_iff]
    exact ⟨hpos, hhalf⟩

theorem State.eligible_iff (s : State) : s.eligible = true ↔
    s.notices.fifo ≠ [] ∨ s.notices.lost ≠ 0 ∨
    (∃ c : Chan, 0 < s.notices.credits[c.val]) ∧
      ((∃ (c : Chan) (l : Link) (limit k : Nat), s.link c = some l ∧ l.dir = .outbound limit k ∧
        0 < s.notices.credits[c.val] ∧ limit ≤ 2 * s.notices.credits[c.val]) ∨
        s.notices.timer = .expired) := by
  have hcredit : s.notices.noCredit = false ↔ ∃ c : Chan, 0 < s.notices.credits[c.val] := by
    rw [Notices.noCredit_false_iff]
    simp only [Nat.pos_iff_ne_zero]
  rw [← hcredit, ← State.halfReached_iff]
  simp [State.eligible, or_assoc]

/-! ### The grant (R119 to R121, R128) -/

theorem State.startParcelOut_eq (s : State) (p : Parcel) (b : Bool) :
    s.startParcelOut p b = { s with
      trunkOut := (s.startParcelOut p b).trunkOut
      tx := some { parcel := p, beat := 1, phase := if s.toakWait then .awaitLow else .presented
                   restart := b } } := by
  unfold State.startParcelOut
  by_cases h : s.toakWait = true <;> simp [h, State.presentBeat]

theorem arbitrate_response {s : State} {r : Response} {rest : List Response} (htx : s.tx = none)
    (h : s.arbiter.responses = r :: rest) : arbitrate s = grantResponse r rest s := by
  simp only [arbitrate, htx, h]

theorem arbitrate_notice {s t : State} (htx : s.tx = none) (h : s.arbiter.responses = [])
    (hd : s.engine.restartDue = false) (hw : s.noticeMayWin = true) (hg : grantNotice s = some t) :
    arbitrate s = t := by
  simp [arbitrate, htx, h, hd, hw, hg]

theorem arbitrate_data {s : State} (htx : s.tx = none) (h : s.arbiter.responses = [])
    (hd : s.engine.restartDue = false) (hw : s.noticeMayWin = true → grantNotice s = none) :
    arbitrate s = grantData s := by
  cases hm : s.noticeMayWin with
  | false => simp [arbitrate, htx, h, hd, hm]
  | true => simp [arbitrate, htx, h, hd, hm, hw hm]

theorem State.noticeMayWin_iff (s : State) : s.noticeMayWin = true ↔ s.eligible = true ∧
    (s.arbiter.last ≠ .notice ∨ s.arbiter.express = [] ∧ s.arbiter.normal = []) := by
  simp [State.noticeMayWin]

/-- A notice whose storage is granted (R128). -/
theorem grantNotice_granted {s : State} (hd : 1 ≤ s.pool.freeDescriptors)
    (hk : cellsFor s.notices.nextBody.length ≤ s.pool.freeCells) : grantNotice s = some
      (State.startParcelOut { s with
        pool := s.pool.holding s.notices.nextBody.length, notices := s.notices.assembled
        arbiter := { s.arbiter with last := .notice } }
          { tag := 48, body := s.notices.nextBody } false) := by
  simp only [grantNotice, Pool.claimManagement_holding hd hk]

/-- A notice whose storage is refused changes nothing (R128). -/
theorem grantNotice_refused {s : State} (h : ¬ (1 ≤ s.pool.freeDescriptors ∧
    cellsFor s.notices.nextBody.length ≤ s.pool.freeCells)) : grantNotice s = none := by
  simp only [grantNotice, Pool.claimManagement_eq, if_neg h]

theorem grantData_normal {s : State} {x : Inbound} {rest : List Inbound}
    (hn : s.arbiter.normal = x :: rest) (h : s.arbiter.express = [] ∨ s.arbiter.run = 8) :
    grantData s = grantNormal x rest s := by
  rcases h with h | h
  · simp only [grantData, hn, h]
  · cases he : s.arbiter.express with
    | nil => simp only [grantData, hn, he]
    | cons y more => simp only [grantData, hn, he, h, if_true]

theorem grantData_express {s : State} {y : Inbound} {more : List Inbound}
    (he : s.arbiter.express = y :: more) (h : s.arbiter.normal = [] ∨ s.arbiter.run < 8) :
    grantData s = grantExpress y more s := by
  cases hn : s.arbiter.normal with
  | nil => simp only [grantData, hn, he]
  | cons x rest =>
    have hrun : ¬ s.arbiter.run = 8 := by
      rcases h with h | h
      · simp [h] at hn
      · omega
    simp only [grantData, hn, he, if_neg hrun]

theorem grantData_none {s : State} (hn : s.arbiter.normal = []) (he : s.arbiter.express = []) :
    grantData s = s := by
  simp only [grantData, hn, he]

/-- Settles O26: the parts of a notice are those of its assembly, and each case of the grant is a branch of
the arbiter's decision. -/
theorem grantOrder : Obligations.GrantOrder := by
  unfold Obligations.GrantOrder
  refine ⟨fun nb => ?_, State.eligible_iff, fun s htx hdue => ?_⟩
  · intro four loss told room records next
    have hfour : four = Record.bytes := by
      funext r
      cases r with
      | started k => cases k <;> rfl
      | drop c reason => cases reason <;> rfl
      | playend c h reason => cases reason <;> rfl
      | _ => rfl
    have hrecords : records = nb.nextRecords := nb.nextRecords_eq.symm
    have hcredit : (∀ c : Chan, next.credits[c.val] = 0) ↔ next.noCredit = true :=
      next.noCredit_iff.symm
    refine ⟨?_, ?_, ?_, rfl, rfl, rfl, rfl, nb.assembled_credit, fun h => ?_, fun h => ?_⟩
    · rw [hrecords, hfour]
      rfl
    · rw [hrecords]; exact nb.nextRecords_length_le
    · rw [hrecords]; exact nb.nextBody_length
    · exact nb.assembled_timer.trans (if_pos (hcredit.mp h))
    · have hsome := next.noCredit_false_iff.mpr h
      exact nb.assembled_timer.trans (if_neg (by rw [Bool.not_eq_true]; exact hsome))
  · intro a t sends sendsData mayWin fits
    refine ⟨fun r rest hr => ?_, fun hr => ⟨fun hwin hfits => ?_, fun hnot => ?_⟩⟩
    · have ht : t = grantResponse r rest s := arbitrate_response htx hr
      simp only [sends]
      rw [ht, grantResponse, State.startParcelOut_eq]
      exact ⟨rfl, rfl, rfl, rfl⟩
    · have ht := arbitrate_notice htx hr hdue (s.noticeMayWin_iff.mpr hwin)
        (grantNotice_granted hfits.1 hfits.2)
      rw [State.startParcelOut_eq] at ht
      simp only [sends]
      rw [show t = _ from ht]
      exact ⟨rfl, rfl, rfl, rfl⟩
    · have ht : t = grantData s := by
        refine arbitrate_data htx hr hdue fun hw => grantNotice_refused fun hf => hnot ⟨?_, hf⟩
        exact s.noticeMayWin_iff.mp hw
      refine ⟨fun x rest hx => ⟨fun h => ?_, fun y more hy hrun => ?_⟩, fun hn y more hy => ?_,
        fun hn he => ?_⟩
      · simp only [sendsData, sends]
        rw [ht, grantData_normal hx h, grantNormal, State.startParcelOut_eq]
        exact ⟨⟨rfl, rfl, rfl⟩, rfl⟩
      · simp only [sendsData, sends]
        have hlater : runAfterExpress s.arbiter.run more s.arbiter.normal = s.arbiter.run + 1 := by
          rw [show s.arbiter.normal = x :: rest from hx]
          exact Nat.min_eq_right hrun
        rw [ht, grantData_express hy (.inr hrun), grantExpress, hlater, State.startParcelOut_eq]
        exact ⟨⟨rfl, rfl, rfl⟩, rfl⟩
      · simp only [sendsData, sends]
        have hlater : runAfterExpress s.arbiter.run more s.arbiter.normal =
            if more = [] then 0 else s.arbiter.run := by
          rw [show s.arbiter.normal = [] from hn]
          rfl
        rw [ht, grantData_express hy (.inl hn), grantExpress, hlater, State.startParcelOut_eq]
        exact ⟨⟨rfl, rfl, rfl⟩, rfl⟩
      · rw [ht]
        exact grantData_none hn he

/-! ### A parcel boundary (R18, R119) -/

/-- With TOAK low and no wait owed, a granted parcel is presented at once (R2, R18). -/
theorem State.startParcelOut_now {s : State} (h : s.toakWait = false) (p : Parcel) (b : Bool) :
    s.startParcelOut p b = { s with
      trunkOut := { s.trunkOut with tod := p.tag, tomk := true, torq := true }
      tx := some { parcel := p, beat := 1, phase := .presented, restart := b } } := by
  simp [State.startParcelOut, h, State.presentBeat, Parcel.beats]

/-- The acknowledge of the last beat ends the parcel (R18). -/
theorem ackDeasserted_last {s : State} {t : Transmission} (htx : s.tx = some t)
    (htoak : s.trunkOut.toak = true) (hp : t.phase = .acknowledged)
    (hb : t.beat = t.parcel.body.length + 3) : ackDeasserted s =
      parcelSent t { s with trunkOut := { s.trunkOut with toak := false }, toakWait := false } := by
  simp [ackDeasserted, htx, htoak, hp, hb]

theorem parcelSent_plain {t : Transmission} (h : t.restart = false) (s : State) : parcelSent t s =
    State.giveBack { s with tx := none } (chanOf t.parcel.tag).isNone 1
      (cellsFor t.parcel.body.length) := by
  simp [parcelSent, h]

/-- An idle engine and an arbiter without a claimant that can win leave the state as it stands. -/
theorem grantData_idle_of {s : State} (htx : s.tx = none) (hr : s.arbiter.responses = [])
    (hd : s.engine.restartDue = false) (he : s.eligible = false) : arbitrate s = grantData s := by
  refine arbitrate_data htx hr hd fun hw => ?_
  rw [State.noticeMayWin_iff, he] at hw
  exact absurd hw.1 (by simp)

/-- An act that comes to the arbiter's decision with trunk-out idle, and what the decision leads to. -/
theorem State.act_decides {n m : Nat} {s u t : State} {f : State → State} (hs : Settled s)
    (h : Leads n (f (s.doing [.arbiter])) (u.doing [.arbiter]))
    (ht : Leads m (arbitrate (u.doing [])) t) (hn : n ≤ 1000) (hm : m ≤ 1000) (ha : t.agenda = []) :
    s.act f = .next t := by
  rw [State.act_live hs.live, hs.push_arbiter]
  congr 1
  exact (h.trans (Leads.job ht)).carryOut (by omega) ha

/-- Settles O25: the storage goes back, and the grant is that of the arbiter's decision. -/
theorem parcelBoundary : Obligations.ParcelBoundary := by
  unfold Obligations.ParcelBoundary
  intro s t hs htx htoak hp hbeat hres hdue hreq u
  have hact : ∀ {m : Nat} {v : State}, Leads m (arbitrate (u.doing [])) v → m ≤ 1000 →
      v.agenda = [] → exec .toakDeasserted s = .next v := by
    intro m v hv hm ha
    show execToakDeasserted s = _
    rw [execToakDeasserted, if_neg (by simp [hs.live])]
    refine State.act_decides (n := 1) (u := u) hs ?_ hv (by norm_num) hm ha
    rw [ackDeasserted_last (s := s.doing [.arbiter]) htx htoak hp hbeat, parcelSent_plain hres]
    exact .serve (by exact (Pool.put_waiting _ _ _ _).trans hs.alone) (.of_eq rfl)
  have hidle : ∀ {v : State}, s.arbiter.responses = [] → s.eligible = false →
      grantData (u.doing []) = v → v.agenda = [] → exec .toakDeasserted s = .next v := by
    intro v hr he hv ha
    refine hact (m := 0) (.of_eq ?_) (by norm_num) ha
    rw [grantData_idle_of (s := u.doing []) (by rfl) hr hdue (by exact he), hv]
  refine ⟨fun hr he hexp hn => ?_, fun x rest hr he hexp hn => ?_, fun r rest hr => ?_⟩
  · exact hidle hr he ((grantData_none (s := u.doing []) hn hexp).trans (State.doing_same (s := u) hs.agenda)) hs.agenda
  · refine hidle hr he ?_ hs.agenda
    rw [grantData_normal (s := u.doing []) hn (.inl hexp), grantNormal,
      State.startParcelOut_now (by rfl)]
    simp [State.doing, hs.agenda, u]
  · refine hact (m := 1) ?_ (by norm_num) hs.agenda
    rw [arbitrate_response (s := u.doing []) (by rfl) hr, grantResponse,
      State.startParcelOut_now (by rfl)]
    refine .job (rest := []) (.of_eq ?_)
    refine (engineTurn_idle (by exact hreq)).trans ?_
    simp [State.doing, hs.agenda, u]

end Sys2Proof.Machine
end

section
/-! The two resets (10.5, 10.6), what RESET_N holds, the totality of the commands, and the Cell Pool's claims
(07). -/

namespace Sys2Proof.Machine

-- the proofs are elaborated one after another: all at once they ask for too many threads
set_option Elab.async false

/-! ### Every command goes on (log 20) -/

theorem State.act_goesOn (s : State) (f : State → State) : ∃ t, s.act f = .next t := by
  unfold State.act
  split <;> exact ⟨_, rfl⟩

theorem request_goesOn {code seq : Byte} {params : List Byte} (h : paramsFit params = true)
    (s : State) : ∃ t, request code seq params s = .next t := by
  rw [request, if_pos h]
  exact s.act_goesOn _

theorem request_tooLong {code seq : Byte} {params : List Byte} (h : paramsFit params = false)
    (s : State) : request code seq params s = .refused .bodyTooLong := by
  rw [request, if_neg (by rw [h]; exact Bool.false_ne_true)]

/-- A command that hands a body to the engine is that request (R170). -/
theorem exec_request {c : Instr} {code seq : Byte} {params : List Byte}
    (hb : c.requestBody = some (code :: seq :: params)) (hw : WellFormed c = true) :
    paramsFit params = true ∧ ∀ s, exec c s = request code seq params s := by
  cases c with
  | unknownRequest k _ _ =>
    obtain ⟨rfl, rfl, rfl⟩ : k = code ∧ _ = seq ∧ _ = params := by simpa [Instr.requestBody] using hb
    obtain ⟨hcode, hfit⟩ : unknownCode k = true ∧ paramsFit _ = true := by
      simpa [WellFormed] using hw
    exact ⟨hfit, fun _ => if_pos hcode⟩
  | repeatAnswer k _ _ =>
    obtain ⟨rfl, rfl, rfl⟩ : k = code ∧ _ = seq ∧ _ = params := by simpa [Instr.requestBody] using hb
    exact ⟨hw, fun _ => rfl⟩
  | identify | readStatus | resetCounters | restart | setTrunk | setProfile | readProfile | setSpur
  | readSpur | openChannel | closeChannel | haltChannel | resumeChannel | readChannel | setTee
  | createSegment | writeSegment | readSegment | deleteSegment | listSegments | playSegment | stopPlay
  | setQuota =>
    obtain ⟨rfl, rfl, rfl⟩ : _ = code ∧ _ = seq ∧ _ = params := by
      simpa [Instr.requestBody] using hb
    exact ⟨hw, fun _ => rfl⟩
  | _ => exact nomatch hb

/-- Every body that a command hands to the engine begins with a code and a sequence. -/
theorem requestBody_cons {c : Instr} {body : List Byte} (hb : c.requestBody = some body) :
    ∃ code seq params, body = code :: seq :: params := by
  cases c with
  | identify | readStatus | resetCounters | restart | setTrunk | setProfile | readProfile | setSpur
  | readSpur | openChannel | closeChannel | haltChannel | resumeChannel | readChannel | setTee
  | createSegment | writeSegment | readSegment | deleteSegment | listSegments | playSegment | stopPlay
  | setQuota | unknownRequest | repeatAnswer =>
    exact ⟨_, _, _, (Option.some.inj hb).symm⟩
  | _ => exact nomatch hb

/-- A command that hands no body to the engine is well-formed and goes on. -/
theorem exec_lines_goesOn {c : Instr} (hb : c.requestBody = none) (s : State) :
    WellFormed c = true ∧ ∃ t, exec c s = .next t := by
  have hcond : ∀ (b : Bool) (u : State) (f : State → State),
      ∃ t, (if b then Host.Outcome.next u else s.act f) = .next t := by
    intro b u f
    cases b with
    | true => exact ⟨u, rfl⟩
    | false => exact s.act_goesOn f
  cases c with
  | trunkInBeat | tirqDeasserted | breakConditionChange | toakAsserted | toakDeasserted | snrdyChange
  | snatnChange | strobeWidthElapsed => exact ⟨rfl, hcond _ _ _⟩
  | gapTimerExpiry | trunkBreak | setupTimeElapsed | pacingIntervalElapsed | ackLimitExpiry
  | turnInComplete | turnOutComplete | yieldTimerExpiry | idleTimerExpiry | spacingTimerElapsed
  | holdOffExpiry => exact ⟨rfl, s.act_goesOn _⟩
  | resetNAsserted => exact ⟨rfl, _, rfl⟩
  | resetNReleased =>
    refine ⟨rfl, ?_⟩
    show ∃ t, execResetNReleased s = _
    unfold execResetNReleased
    split <;> exact ⟨_, rfl⟩
  | _ => exact nomatch hb

/-- A term that spells no command is refused by name (log 20). -/
theorem exec_malformedTerm {c : Instr} (hw : WellFormed c = false) (s : State) :
    exec c s = .refused .bodyTooLong ∨ exec c s = .refused .codeOfARequest := by
  cases hb : c.requestBody with
  | none =>
    rw [(exec_lines_goesOn hb s).1] at hw
    exact nomatch hw
  | some body =>
    cases c with
    | unknownRequest k q ps =>
      by_cases hk : unknownCode k = true
      · refine .inl ((if_pos hk).trans (request_tooLong ?_ s))
        simpa [WellFormed, hk] using hw
      · exact .inr (if_neg hk)
    | identify | readStatus | resetCounters | restart | setTrunk | setProfile | readProfile | setSpur
    | readSpur | openChannel | closeChannel | haltChannel | resumeChannel | readChannel | setTee
    | createSegment | writeSegment | readSegment | deleteSegment | listSegments | playSegment
    | stopPlay | setQuota | repeatAnswer => exact .inl (request_tooLong hw s)
    | _ => exact nomatch hb

/-- Settles O2. -/
theorem everyCommandGoesOn : Obligations.EveryCommandGoesOn := by
  unfold Obligations.EveryCommandGoesOn
  refine fun c s => ⟨fun hw => ?_, fun hw => exec_malformedTerm hw s⟩
  have hnext : ∃ t, exec c s = .next t := by
    cases hb : c.requestBody with
    | none => exact (exec_lines_goesOn hb s).2
    | some body =>
      obtain ⟨code, seq, params, rfl⟩ := requestBody_cons hb
      obtain ⟨hfit, hexec⟩ := exec_request hb hw
      rw [hexec]
      exact request_goesOn hfit s
  obtain ⟨t, ht⟩ := hnext
  exact ⟨t, ht, (exec_moves ht).pending⟩

/-! ### RESET_N asserted (R192) -/

/-- From s to t at most the levels of the input lines move (R192). -/
def LevelsMove (s t : State) : Prop :=
  t = { s with
    trunkIn := t.trunkIn
    trunkOut := { s.trunkOut with toak := t.trunkOut.toak }
    rx := { s.rx with breakTimer := t.rx.breakTimer }
    columns := t.columns } ∧
  (t.trunkIn.tiak = s.trunkIn.tiak ∨ t.trunkIn.tiak = false) ∧
  (t.rx.breakTimer = s.rx.breakTimer ∨ t.rx.breakTimer = .stopped) ∧
  (∀ n : Spur, t.column n = { s.column n with lane := { s.lane n with
    ready := (t.lane n).ready, atn := (t.lane n).atn, dataIn := (t.lane n).dataIn } })

theorem LevelsMove.refl (s : State) : LevelsMove s s :=
  ⟨rfl, .inl rfl, .inl rfl, fun _ => rfl⟩

theorem LevelsMove.trunkIn (s : State) (x : TrunkIn)
    (h : x.tiak = s.trunkIn.tiak ∨ x.tiak = false) :
    LevelsMove s { s with trunkIn := x, rx := { s.rx with breakTimer := .stopped } } :=
  ⟨rfl, h, .inr rfl, fun _ => rfl⟩

theorem LevelsMove.toak (s : State) (b : Bool) :
    LevelsMove s { s with trunkOut := { s.trunkOut with toak := b } } :=
  ⟨rfl, .inl rfl, .inl rfl, fun _ => rfl⟩

theorem LevelsMove.lane (s : State) (n : Spur) (ready atn : Bool) (data : Byte) :
    LevelsMove s (s.setLane n { s.lane n with ready := ready, atn := atn, dataIn := data }) := by
  refine ⟨rfl, .inl rfl, .inl rfl, fun m => ?_⟩
  by_cases h : m = n
  · subst h
    rw [State.lane_setLane, State.setLane, State.column_setColumn]
  · simp only [State.lane, State.setLane, State.column_setColumn_ne _ h]

theorem moveTrunkIn_inReset {s : State} (h : s.inReset = true) (d : Byte) (m q : Bool) :
    s.moveTrunkIn d m q = { s with
      trunkIn := { s.trunkIn with tid := d, timk := m, tirq := q }
      rx := { s.rx with breakTimer := .stopped } } := by
  simp only [State.moveTrunkIn, h, if_true]

theorem moveTrunkIn_levels {s : State} (h : s.inReset = true) (d : Byte) (m q : Bool) :
    LevelsMove s (s.moveTrunkIn d m q) := by
  rw [moveTrunkIn_inReset h]
  exact .trunkIn s _ (.inl rfl)

theorem dropRequest_levels {s : State} (h : s.inReset = true) (m : Bool) :
    LevelsMove s (dropRequest m s) := by
  rw [dropRequest, moveTrunkIn_inReset h]
  exact .trunkIn s _ (.inr rfl)

/-- Under RESET_N a command that does not move RESET_N leaves a state whose levels alone have moved. -/
theorem exec_inReset {c : Instr} {s t : State} (h : s.inReset = true) (ha : c ≠ .resetNAsserted)
    (hr : c ≠ .resetNReleased) (he : exec c s = .next t) : LevelsMove s t := by
  have hact : ∀ f, s.act f = .next t → LevelsMove s t := by
    intro f hf
    rw [State.act_inReset h, Host.Outcome.next.injEq] at hf
    exact hf ▸ .refl s
  have hcond : ∀ (u : State) (f : State → State), LevelsMove s u →
      (if s.inReset then Host.Outcome.next u else s.act f) = .next t → LevelsMove s t := by
    intro u f hu hf
    rw [if_pos h, Host.Outcome.next.injEq] at hf
    exact hf ▸ hu
  cases c with
  | trunkInBeat m d => exact hcond _ _ (moveTrunkIn_levels h d m true) he
  | tirqDeasserted => exact hcond _ _ (dropRequest_levels h _) he
  | breakConditionChange m q =>
    refine hcond _ _ ?_ he
    cases q with
    | true => exact moveTrunkIn_levels h _ m true
    | false => exact dropRequest_levels h m
  | toakAsserted | toakDeasserted => exact hcond _ _ (.toak s _) he
  | snrdyChange n r d => exact hcond _ _ (.lane s n r _ d) he
  | snatnChange n a => exact hcond _ _ (.lane s n _ a _) he
  | strobeWidthElapsed n d => exact hcond _ _ (.lane s n _ _ d) he
  | gapTimerExpiry | trunkBreak | setupTimeElapsed | pacingIntervalElapsed | ackLimitExpiry
  | turnInComplete | turnOutComplete | yieldTimerExpiry | idleTimerExpiry | spacingTimerElapsed
  | holdOffExpiry => exact hact _ he
  | resetNAsserted => exact absurd rfl ha
  | resetNReleased => exact absurd rfl hr
  | _ =>
    cases hw : WellFormed _ with
    | false =>
      rcases exec_malformedTerm hw s with hx | hx
      all_goals exact nomatch hx.symm.trans he
    | true =>
      obtain ⟨hfit, hexec⟩ := exec_request rfl hw
      rw [hexec, request, if_pos hfit] at he
      exact hact _ he

/-- Settles O10: every command but the two of RESET_N is an act, which RESET_N holds, or moves a level. -/
theorem resetHoldsEverythingButLevels : Obligations.ResetHoldsEverythingButLevels := by
  unfold Obligations.ResetHoldsEverythingButLevels
  intro c s t h ha hr he
  exact exec_inReset h ha hr he

/-! ### The first notice after a reset (R133, R134) -/

/-- The Notice Builder once a reset has placed STARTED (R133, R134). -/
structure Notices.Starting (nb : Notices) (k : ResetKind) : Prop where
  fifo : nb.fifo = [.started k]
  credits : nb.credits = Vector.replicate 47 0
  lost : nb.lost = 0
  serial : nb.serial = 0

theorem Notices.restarted_starting (nb : Notices) (k : ResetKind) :
    (nb.restarted.arrive (.started k)).Starting k := ⟨rfl, rfl, rfl, rfl⟩

section starting
variable {nb : Notices} {k : ResetKind}

theorem Notices.Starting.lossRecords (h : nb.Starting k) : nb.lossRecords = [] := if_pos h.lost

theorem Notices.Starting.reported (h : nb.Starting k) : nb.reported = [] := by
  have hnone : nb.credited = [] := by simp [Notices.credited, h.credits]
  rw [Notices.reported, hnone, List.take_nil]

theorem Notices.Starting.nextBody (h : nb.Starting k) : nb.nextBody = [0, 1, 0, 0, k.code] := by
  rw [Notices.nextBody, Notices.nextRecords, h.lossRecords, h.reported, h.fifo, h.serial]
  rfl

theorem Notices.Starting.assembled (h : nb.Starting k) :
    nb.assembled = { nb with fifo := [], serial := 1, timer := .stopped } := by
  simp [Notices.assembled, Notices.noCredit, h.lossRecords, h.reported, h.fifo, h.serial, h.credits,
    h.lost, Config.noticeRecords]

end starting

/-- The arbiter's first decision after a reset grants the notice that carries STARTED, in storage of its
own (R134, R145, R146). -/
theorem arbitrate_first {s : State} {k : ResetKind} (htx : s.tx = none)
    (ha : s.arbiter = Arbiter.fresh) (hd : s.engine.restartDue = false) (hn : s.notices.Starting k)
    (hdesc : 1 ≤ s.pool.freeDescriptors) (hcell : 1 ≤ s.pool.freeCells) :
    arbitrate s = State.startParcelOut { s with
      pool := s.pool.holding 5
      notices := { s.notices with fifo := [], serial := 1, timer := .stopped }
      arbiter := { s.arbiter with last := .notice } }
        { tag := 48, body := [0, 1, 0, 0, k.code] } false := by
  have hwin : s.noticeMayWin = true := by
    rw [State.noticeMayWin_iff, State.eligible_iff, hn.fifo, ha]
    exact ⟨.inl (by simp), .inl (by simp [Arbiter.fresh])⟩
  have hbody := hn.nextBody
  rw [arbitrate_notice htx (by rw [ha]; rfl) hd hwin
    (grantNotice_granted hdesc (by rw [hbody]; exact (show cellsFor 5 ≤ 1 by decide).trans hcell)), hbody, hn.assembled]
  rfl

theorem State.column_mapColumns (s : State) (f : Column → Column) (n : Spur) :
    (s.mapColumns f).column n = f (s.column n) := by
  match n with
  | 0 | 1 | 2 | 3 => rfl

/-! ### Line reset (R192, R193) -/

/-- What RESET_N's release presents: nothing before TOAK has been deasserted (R193, log 18). -/
theorem startParcelOut_released {s : State} (p : Parcel) (h : s.toakWait = s.trunkOut.toak) :
    s.startParcelOut p false = { s with
      trunkOut := if s.trunkOut.toak then s.trunkOut
        else { tod := p.tag, tomk := true, torq := true, toak := false }
      tx := some { parcel := p, beat := 1
                   phase := if s.trunkOut.toak then .awaitLow else .presented, restart := false } } := by
  cases hk : s.trunkOut.toak with
  | true =>
    rw [State.startParcelOut_eq, h, hk]
    simp [State.startParcelOut, h, hk]
  | false =>
    simp [State.startParcelOut_now (h.trans hk), hk]

/-- Settles O11. -/
theorem lineReset_holds_releases : Obligations.LineReset := by
  unfold Obligations.LineReset
  refine ⟨fun s => ⟨lineReset s, rfl, rfl, rfl, rfl, rfl, rfl, rfl, rfl, rfl, rfl, fun c => ?_,
    fun n => ?_, rfl, rfl, rfl, rfl, rfl, rfl, fun h => ?_, fun i => ?_, rfl⟩, fun s hr => ?_⟩
  · simp [lineReset, State.channel, State.credit, Channel.fresh, Notices.restarted]
  · have hcol : (lineReset s).column n = (s.column n).lineReset := s.column_mapColumns _ n
    simp only [State.queue, State.lane, State.gather, hcol]
    exact ⟨rfl, rfl, rfl, rfl, rfl, rfl, rfl, rfl, rfl, rfl, rfl, rfl, rfl, rfl, rfl, rfl, rfl⟩
  · simp [lineReset, State.segment, Store.fresh]
  · simp [lineReset, State.context, Store.fresh]
  · have hfirst : arbitrate ((lineRelease s).doing []) = _ :=
      arbitrate_first (s := (lineRelease s).doing []) (k := .line) rfl rfl rfl ⟨rfl, rfl, rfl, rfl⟩
        (show 1 ≤ 128 by decide) (show 1 ≤ 2048 by decide)
    rw [startParcelOut_released _ (by exact rfl)] at hfirst
    refine ⟨_, (if_pos hr).trans (congrArg _ (Leads.carryOut (n := 1)
      (.step rfl rfl (.of_eq hfirst)) (by norm_num) rfl)), rfl, rfl, rfl, rfl, rfl, rfl, rfl, rfl,
      fun k => ?_, fun n => ?_, ?_, rfl, fun hk => ?_, fun hk => ?_⟩
    · simp [lineRelease, State.profile, Profile.default]
    · have hcol : (lineRelease s).column n = ((s.column n).lineReset).released := by
        refine ((lineReset s).column_mapColumns _ n).trans ?_
        rw [show (lineReset s).column n = _ from s.column_mapColumns _ n]
      have hlane : (lineRelease s).lane n = Lane.cut SpurConfig.default
          (s.lane n).ready (s.lane n).atn (s.lane n).dataIn := congrArg Column.lane hcol
      exact ⟨congrArg Lane.config hlane, congrArg Lane.state hlane⟩
    · show BreakTimer.stopped.follow s.trunkIn.timk s.trunkIn.tirq = _
      cases s.trunkIn.timk <;> cases s.trunkIn.tirq <;> rfl
    · refine (if_neg ?_).trans rfl
      show ¬ s.trunkOut.toak = true
      rw [hk]
      exact Bool.false_ne_true
    · refine (if_pos hk).trans ?_
      show TrunkOut.mk 0 false false s.trunkOut.toak = _
      rw [hk]

/-! ### Restart (R189, R190) -/

/-- A restart that takes effect, with the notice of its STARTED record granted at once. -/
theorem restarted_arbitrates {s : State} (htoak : s.toakWait = false)
    (hcells : s.pool.segmentCells ≤ 1536) :
    arbitrate ((restart s).doing []) = { restart s with
      pool := { freeCells := 2047 - s.pool.segmentCells, freeDescriptors := 127, mgmtCells := 1
                mgmtDescriptors := 1, segmentCells := s.pool.segmentCells, waiting := [] }
      notices := { s.notices.restarted with serial := 1 }
      arbiter := { Arbiter.fresh with last := .notice }
      trunkOut := { s.trunkOut with tod := 48, tomk := true, torq := true }
      tx := some { parcel := { tag := 48, body := [0, 1, 0, 0, 2] }, beat := 1
                   phase := .presented, restart := false }
      agenda := [] } := by
  have hroom : 1 ≤ 2048 - s.pool.segmentCells := by omega
  have hpool : (restart s).pool.holding 5 =
      { freeCells := 2047 - s.pool.segmentCells, freeDescriptors := 127, mgmtCells := 1
        mgmtDescriptors := 1, segmentCells := s.pool.segmentCells, waiting := [] } := by
    have hfree : 2048 - s.pool.segmentCells - 1 = 2047 - s.pool.segmentCells := by omega
    rw [← hfree]
    rfl
  rw [arbitrate_first (s := (restart s).doing []) (k := .restart) rfl rfl rfl
    (s.notices.restarted_starting .restart) (show 1 ≤ 128 by decide) hroom,
    State.startParcelOut_now (by exact htoak), ← hpool]
  rfl

theorem parcelSent_restart {t : Transmission} (h : t.restart = true) (s : State) : parcelSent t s =
    State.giveBack (State.push { s with tx := none } [.restart]) (chanOf t.parcel.tag).isNone 1
      (cellsFor t.parcel.body.length) := by
  simp [parcelSent, h]

/-- Once the response to RESTART has been sent, the restart takes effect and the arbiter grants the notice
of its STARTED record (R19, R190). -/
theorem exec_restartSent {s : State} {t : Transmission} (hs : Settled s) (htx : s.tx = some t)
    (htoak : s.trunkOut.toak = true) (hp : t.phase = .acknowledged)
    (hbeat : t.beat = t.parcel.body.length + 3) (hres : t.restart = true)
    (hcells : s.pool.segmentCells ≤ 1536) : exec .toakDeasserted s = .next { restart s with
      pool := { freeCells := 2047 - s.pool.segmentCells, freeDescriptors := 127, mgmtCells := 1
                mgmtDescriptors := 1, segmentCells := s.pool.segmentCells, waiting := [] }
      notices := { s.notices.restarted with serial := 1 }
      arbiter := { Arbiter.fresh with last := .notice }
      trunkOut := { tod := 48, tomk := true, torq := true, toak := false }
      toakWait := false
      tx := some { parcel := { tag := 48, body := [0, 1, 0, 0, 2] }, beat := 1
                   phase := .presented, restart := false }
      agenda := [] } := by
  let u : State := { s with
    trunkOut := { s.trunkOut with toak := false }, toakWait := false, tx := none
    pool := s.pool.put (chanOf t.parcel.tag).isNone 1 (cellsFor t.parcel.body.length) }
  have hseg : u.pool.segmentCells = s.pool.segmentCells := Pool.put_segmentCells _ _ _ _
  have hack : ackDeasserted (s.doing [.arbiter]) = u.doing [.serve, .restart, .arbiter] := by
    rw [ackDeasserted_last (s := s.doing [.arbiter]) htx htoak hp hbeat, parcelSent_restart hres]
    rfl
  have hlast : Leads 1 (restart (u.doing [.arbiter])) (arbitrate ((restart u).doing [])) :=
    .step rfl rfl (.refl _ _)
  rw [restarted_arbitrates (by rfl) (hseg ▸ hcells), hseg] at hlast
  show execToakDeasserted s = _
  rw [execToakDeasserted, if_neg (by simp [hs.live]), State.act_live hs.live, hs.push_arbiter, hack]
  congr 1
  exact (Leads.serve ((Pool.put_waiting _ _ _ _).trans hs.alone) (.job hlast)).carryOut
    (by norm_num) rfl

/-- Settles O33. -/
theorem restartHoldsAndTakesEffect : Obligations.RestartHoldsAndTakesEffect := by
  unfold Obligations.RestartHoldsAndTakesEffect
  refine ⟨fun s seq hs he => ⟨_, ?_, rfl, rfl⟩, fun s t hs htx htoak hp hbeat hres hcells =>
    ⟨_, exec_restartSent hs htx htoak hp hbeat hres hcells, rfl, rfl, rfl, rfl, rfl, fun c => ?_,
      fun n => ?_, rfl, rfl, rfl, rfl, rfl, rfl, rfl, rfl, rfl, fun h => ?_, ?_, fun i => ?_, rfl,
      rfl⟩⟩
  · exact request_answered (params := []) (results := []) (st := .ok)
      (t := { s with engine := { s.engine with hold := true } }) hs he rfl rfl hs.busy hs.alone
      hs.agenda he.idle he.between he.descriptor he.requestCells he.responseCells
  · simp [restart, State.channel, State.credit, Channel.fresh, Notices.restarted]
  · have hcol : (restart s).column n = (s.column n).restarted := s.column_mapColumns _ n
    exact ⟨congrArg Column.queue hcol, congrArg Column.lane hcol, congrArg Column.gather hcol⟩
  · exact restart_segment s h
  · exact s.store.restarted_quota
  · show s.store.restarted.contexts[i.val] = none
    simp [Store.restarted]

/-- Settles O3: the reset state is a closed term. -/
theorem resetValues : Obligations.ResetValues := by
  unfold Obligations.ResetValues
  refine ⟨rfl, rfl, rfl, rfl, rfl, rfl, rfl, rfl, rfl, fun c => ?_, fun n => ?_, fun k => ?_, rfl, rfl,
    rfl, rfl, rfl, rfl, rfl, rfl, rfl, rfl, rfl, rfl, fun h => ?_, fun i => ?_, rfl, rfl, rfl, rfl⟩
  · simp [State.reset, State.channel, State.credit, Channel.fresh]
  · simp [State.reset, State.queue, State.lane, State.gather, State.column, Lane.cut, Gather.fresh,
      SpurConfig.default]
  · simp [State.reset, State.profile, Profile.default]
  · simp [State.reset, State.segment, Store.fresh]
  · simp [State.reset, State.context, Store.fresh]

/-! ### Claims and the waiting list (R137 to R144) -/

theorem serve_refused {s : State} {w : Waiter} {rest : List Waiter} (h : s.pool.waiting = w :: rest)
    (hf : s.pool.ordinaryFits w.descriptors w.cells = false) : serve s = s := by
  simp [serve, h, hf]

/-- The state in which a granted head waiter acts: it has left the list with its storage, and the list is
served again after it (R143). -/
def State.granting (s : State) (w : Waiter) (rest : List Waiter) : State :=
  { s with
    pool := { s.pool.take w.descriptors w.cells with waiting := rest }
    agenda := .serve :: s.agenda }

theorem serve_gather {s : State} {w : Waiter} {rest : List Waiter} {n : Spur}
    (h : s.pool.waiting = w :: rest) (hf : s.pool.ordinaryFits w.descriptors w.cells = true)
    (hn : w.who = .gather n) : serve s = grantedByte n (s.granting w rest) := by
  simp only [serve, h, hf, if_true, hn]
  rfl

theorem serve_context {s : State} {w : Waiter} {rest : List Waiter} {i : Context}
    (h : s.pool.waiting = w :: rest) (hf : s.pool.ordinaryFits w.descriptors w.cells = true)
    (hi : w.who = .context i) : serve s = emit i (s.granting w rest) := by
  simp only [serve, h, hf, if_true, hi]
  rfl

/-- A granted byte joins the gather it waits for (R101, R143). -/
theorem grantedByte_filling {s : State} {n : Spur} {b : HeldByte} {c : Chan} {cls : DataClass}
    {bs : List Byte} (hw : (s.gather n).waiting = some b)
    (hg : (s.gather n).state = .filling c cls bs) : grantedByte n s =
      (s.setGather n { s.gather n with
        state := .filling c cls (if b.term then bs else bs ++ [b.byte]), waiting := none }).push
        [.acknowledge n] := by
  simp only [grantedByte, hw, hg]

/-- A granted byte begins the gather of the IN channel (R98, R143). -/
theorem grantedByte_empty {s : State} {n : Spur} {b : HeldByte} {c : Chan} {i : InSettings}
    (hw : (s.gather n).waiting = some b) (hg : (s.gather n).state = .empty)
    (hc : s.inChan n = some c) (hi : s.inSettings c = some i) : grantedByte n s =
      (s.setGather n { s.gather n with
        state := .filling c i.cls (if b.term then [] else [b.byte]), waiting := none }).push
        [.acknowledge n] := by
  simp only [grantedByte, hw, hg, hc, hi]

/-- An emission takes the context to another entry, or to ENDING (R163). -/
theorem Playback.advance_phase (x : Playback) (k : Nat) :
    (x.advance k).phase = .active ∨ (x.advance k).phase = .ending := by
  unfold Playback.advance
  split
  · exact .inl rfl
  · split
    · exact .inl rfl
    · split
      · exact .inl rfl
      · exact .inr rfl

/-- The context after an emission (R163). -/
def Playback.emitted (x : Playback) (entries : Nat) : Playback :=
  { x.advance entries with
    count := x.count + 1, timer := if x.spacing = 0 then .elapsed else .running }

/-- An emission puts the entry at the tail of the spur's queue (R163). -/
theorem emit_eq {s : State} {i : Context} {x : Playback} {g : Segment} {body : List Byte}
    (hx : s.context i = some x) (hg : s.segment x.handle = some g)
    (hb : g.entries[x.next - 1]? = some body) : emit i s =
      ((s.setQueue x.spur (s.queue x.spur ++
        [{ chan := x.chan, origin := .playback (some i), body := body }])).setContext i
          (some (x.emitted g.entries.length))).push
        (if x.spacing = 0 then [.testContext i, .work x.spur] else [.work x.spur]) := by
  have hnext : s.nextEntry x = some body := by simp only [State.nextEntry, hg, hb]
  simp only [emit, hx, hg, hnext]
  rfl

/-- Leaving the list without a grant has it served again from a new head only (R144). -/
theorem leaveWaiting_agenda (s : State) (who : Claimant) :
    (s.leaveWaiting who).agenda = .serve :: s.agenda ↔
      ∃ w rest, s.pool.waiting = w :: rest ∧ w.who = who := by
  have hhead : (s.pool.waiting.head?.map Waiter.who = some who) ↔
      ∃ w rest, s.pool.waiting = w :: rest ∧ w.who = who := by
    cases s.pool.waiting with
    | nil => simp
    | cons w rest => simp
  rw [← hhead]
  unfold State.leaveWaiting
  by_cases h : s.pool.waiting.head?.map Waiter.who = some who
  · simp [h, State.push]
  · simp only [h, if_false, iff_false]
    exact fun e => absurd (congrArg List.length e) (by simp)

theorem leaveWaiting_pool (s : State) (who : Claimant) : (s.leaveWaiting who).pool = { s.pool with
    waiting := s.pool.waiting.filter fun w => w.who ≠ who } := by
  unfold State.leaveWaiting
  dsimp only
  split <;> rfl

/-- Settles O60. -/
theorem poolClaims : Obligations.PoolClaims := by
  unfold Obligations.PoolClaims
  refine ⟨fun p d k => ⟨p.claimManagement_eq d k, fun hpos hq => ?_, fun hw hk hd => ?_⟩,
    fun _ _ _ _ => rfl, fun s hw => serve_alone hw, fun s w rest hw => ?_,
    fun s who => ⟨leaveWaiting_pool s who, leaveWaiting_agenda s who⟩⟩
  · obtain ⟨q, hq⟩ := hq
    rcases Pool.claimOrdinary_some hq with ⟨rfl, rfl, -⟩ | ⟨hw, hf, -⟩
    · exact absurd hpos (by decide)
    · exact ⟨hw, (Pool.ordinaryFits_iff _ _ _).mp hf⟩
  · exact Pool.claimOrdinary_granted hw hk hd
  · intro fits p
    have hfits : fits → s.pool.ordinaryFits w.descriptors w.cells = true :=
      (Pool.ordinaryFits_iff _ _ _).mpr
    refine ⟨fun hf => serve_refused hw ?_, fun n b hf hn hb => ⟨fun c cls bs hg => ?_,
      fun c i hg hc hi => ?_⟩, fun i x g body hf hi hx hg hbody => ?_⟩
    · rw [← Bool.not_eq_true]
      exact fun h => hf ((Pool.ordinaryFits_iff _ _ _).mp h)
    · rw [serve_gather hw (hfits hf) hn, grantedByte_filling (by exact hb) (by exact hg)]
      rfl
    · rw [serve_gather hw (hfits hf) hn,
        grantedByte_empty (by exact hb) (by exact hg) (by exact hc) (by exact hi)]
      rfl
    · rw [serve_context hw (hfits hf) hi, emit_eq (by exact hx) (by exact hg) hbody]
      refine ⟨rfl, ?_, State.queue_setQueue _ _ _, x.emitted g.entries.length,
        State.context_setContext _ _ _, rfl, ?_⟩
      · split <;> simp [State.push, State.granting]
      · rcases x.advance_phase g.entries.length with h | h
        all_goals
          rw [show (x.emitted g.entries.length).phase = _ from h]
          simp

end Sys2Proof.Machine
end

section
/-! The requests whose effects stand alone (09, 10, 08): MALFORMED and refused requests, arrival and
repeats, and the requests that read or set without a rule that follows. -/

namespace Sys2Proof.Machine

-- the proofs are elaborated one after another: all at once they ask for too many threads
set_option Elab.async false

/-! ### Request parameters -/

@[simp] theorem handleOf_byteOf_handleNumber (h : Handle) : handleOf (byteOf (handleNumber h)) = some h := by
  have hb : (byteOf (handleNumber h)).toNat = h.val + 1 := by
    simp only [byteOf, handleNumber, BitVec.toNat_ofNat]
    omega
  simp [handleOf, hb]

@[simp] theorem spurOf_ofNat_val (n : Spur) : spurOf (BitVec.ofNat 8 n.val) = some n := by
  match n with
  | 0 | 1 | 2 | 3 => rfl

theorem byteOf_handleNumber_ne (h : Handle) : byteOf (handleNumber h) ≠ 0 := by
  intro e
  have hb : (byteOf (handleNumber h)).toNat = 0 := by rw [e]; rfl
  simp only [byteOf, handleNumber, BitVec.toNat_ofNat] at hb
  omega

@[simp] theorem readTee_none : readTee 0 = some none := rfl

@[simp] theorem readTee_handle (h : Handle) : readTee (byteOf (handleNumber h)) = some (some h) := by
  rw [readTee, if_neg (byteOf_handleNumber_ne h), handleOf_byteOf_handleNumber]
  rfl

@[simp] theorem readTee_teeByte (t : Option Handle) : readTee (teeByte t) = some t := by
  cases t with
  | none => rfl
  | some h => exact readTee_handle h

/-! ### What an execution sees and leaves (R174) -/

section executing
variable (s : State) (code seq : Byte) (ps : List Byte)

@[simp] theorem State.executing_tx : (s.executing code seq ps).tx = s.tx := rfl
@[simp] theorem State.executing_rx : (s.executing code seq ps).rx = s.rx := rfl
@[simp] theorem State.executing_notices : (s.executing code seq ps).notices = s.notices := rfl
@[simp] theorem State.executing_store : (s.executing code seq ps).store = s.store := rfl
@[simp] theorem State.executing_pool :
    (s.executing code seq ps).pool = s.pool.holding (ps.length + 2) := rfl
@[simp] theorem State.executing_link (c : Chan) : (s.executing code seq ps).link c = s.link c := rfl
@[simp] theorem State.executing_lane (n : Spur) : (s.executing code seq ps).lane n = s.lane n := rfl
@[simp] theorem State.executing_queue (n : Spur) : (s.executing code seq ps).queue n = s.queue n := rfl
@[simp] theorem State.executing_gather (n : Spur) :
    (s.executing code seq ps).gather n = s.gather n := rfl
@[simp] theorem State.executing_segment (h : Handle) :
    (s.executing code seq ps).segment h = s.segment h := rfl
@[simp] theorem State.executing_context (i : Context) :
    (s.executing code seq ps).context i = s.context i := rfl
@[simp] theorem State.executing_openIn (n : Spur) :
    (s.executing code seq ps).openIn n = s.openIn n := rfl
@[simp] theorem State.executing_spurUsed (n : Spur) :
    (s.executing code seq ps).spurUsed n = s.spurUsed n := rfl
@[simp] theorem State.executing_counts :
    (s.executing code seq ps).engine.counts = s.engine.counts := rfl
@[simp] theorem State.executing_lastReset :
    (s.executing code seq ps).lastReset = s.lastReset := rfl
@[simp] theorem State.executing_notClosed :
    (s.executing code seq ps).notClosed = s.notClosed := rfl
@[simp] theorem State.executing_freeHandle :
    (s.executing code seq ps).freeHandle = s.freeHandle := rfl

end executing

theorem cellsFor_mono {n m : Nat} (h : n ≤ m) : cellsFor n ≤ cellsFor m :=
  Nat.div_le_div_right (Nat.add_le_add_right h 31)

/-- An engine ready for an answer is ready for a shorter one. -/
theorem Ready.shorter {s : State} {code seq : Byte} {req res n : Nat} (h : Ready s code seq req res)
    (hn : n ≤ res) : Ready s code seq req n :=
  { h with responseCells := (cellsFor_mono (by omega)).trans h.responseCells }

/-- A request whose rule reads or sets, and leaves the trunk, the pool, the engine and the agenda as they
stand, is answered at once. -/
theorem request_effect {s t : State} {code seq : Byte} {ps : List Byte} {st : Status}
    {results : List Byte} (hs : Settled s) (he : Ready s code seq ps.length results.length)
    (hf : paramsFit ps = true)
    (hx : executeRequest code ps (s.executing code seq ps) =
      { state := t.executing code seq ps, status := st, results := results })
    (htx : t.tx = s.tx := by rfl) (hp : t.pool = s.pool := by rfl)
    (hen : t.engine = s.engine := by rfl) (ha : t.agenda = s.agenda := by rfl) :
    request code seq ps s = .next (t.answered code seq st results) :=
  request_answered hs he hf hx (htx ▸ hs.busy) (hp ▸ hs.alone) (ha ▸ hs.agenda) (hen ▸ he.idle)
    (hen ▸ he.between) (hp ▸ he.descriptor) (hp ▸ he.requestCells) (hp ▸ he.responseCells)

/-- A request that its rule refuses, where the engine is ready for any answer. -/
theorem request_refuses {s : State} {code seq : Byte} {ps : List Byte} {st : Status} {res : Nat}
    (hs : Settled s) (he : Ready s code seq ps.length res) (hf : paramsFit ps = true)
    (hx : executeRequest code ps (s.executing code seq ps) =
      (s.executing code seq ps).refuse st) :
    request code seq ps s = .next (s.answered code seq st []) :=
  request_refused hs (he.shorter (Nat.zero_le res)) hf hx

/-! ### Requests with other parameters than their rule takes (R171) -/

/-- The first check of every request's rule (R171). -/
theorem executeRequest_wrongParams {code : Byte} {ps : List Byte} (h : wrongParams code.toNat ps = true)
    (s : State) : executeRequest code ps s = s.refuse .malformed := by
  unfold executeRequest
  generalize code.toNat = k at h
  match k, h with
  | 1, h | 2, h | 3, h | 4, h | 20, h =>
    have hlen : ps.length ≠ 0 := by simpa [wrongParams] using h
    simp only [identify, readStatus, resetCounters, restartRequest, listSegments]
    split
    · exact absurd rfl hlen
    · rfl
  | 7, h | 9, h | 12, h | 13, h | 14, h | 19, h | 22, h =>
    have hlen : ps.length ≠ 1 := by simpa [wrongParams] using h
    simp only [readProfile, readSpur, haltChannel, resumeChannel, readChannel, deleteSegment, stopPlay]
    split
    · exact absurd rfl hlen
    · rfl
  | 5, h | 11, h | 15, h | 23, h =>
    have hlen : ps.length ≠ 2 := by simpa [wrongParams] using h
    simp only [setTrunk, closeChannel, setTee, setQuota]
    split
    · exact absurd rfl hlen
    · rfl
  | 18, h =>
    have hlen : ps.length ≠ 3 := by simpa [wrongParams] using h
    simp only [readSegment]
    split
    · exact absurd rfl hlen
    · rfl
  | 21, h =>
    have hlen : ps.length ≠ 4 := by simpa [wrongParams] using h
    simp only [playSegment]
    split
    · exact absurd rfl hlen
    · rfl
  | 8, h =>
    have hlen : ps.length ≠ 6 := by simpa [wrongParams] using h
    simp only [setSpur]
    split
    · exact absurd rfl hlen
    · rfl
  | 6, h =>
    have hlen : ps.length ≠ 8 := by simpa [wrongParams] using h
    simp only [setProfile]
    split
    · exact absurd rfl hlen
    · rfl
  | 10, h =>
    have hlen : ps.length ≠ 11 := by simpa [wrongParams] using h
    simp only [openChannel]
    split
    · exact absurd rfl hlen
    · rfl
  | 16, h =>
    simp only [createSegment]
    split
    · rename_i len label _
      have hlen : label.length + 3 < 3 ∨ label.length + 3 ≠ 3 + len.toNat := of_decide_eq_true h
      exact if_pos (by omega)
    · rfl
  | 17, h =>
    have hnil : ps = [] := by simpa [wrongParams] using h
    rw [hnil]
    rfl
  | 0, _ => rfl
  | k + 24, _ => rfl

/-- Settles O27. -/
theorem malformedRequests : Obligations.MalformedRequests := by
  unfold Obligations.MalformedRequests
  intro c code seq ps s hs hw hb he hwrong
  obtain ⟨hfit, hexec⟩ := exec_request hb hw
  rw [hexec]
  exact request_refused hs he hfit (executeRequest_wrongParams hwrong _)

/-! ### Refused requests (R170) -/

/-- A reply that succeeds or is accepted, or refuses the request. -/
def Reply.Plain (x : Reply) (s : State) : Prop :=
  x.status = .ok ∨ x.status = .accepted ∨ x = s.refuse x.status

theorem Reply.Plain.refuse (s : State) (st : Status) : (s.refuse st).Plain s := .inr (.inr rfl)

theorem Reply.Plain.answer (s t : State) (r : List Byte) : (t.answer r).Plain s := .inl rfl

theorem Reply.Plain.accept (s t : State) (r : List Byte) :
    Reply.Plain { state := t, status := .accepted, results := r } s := .inr (.inl rfl)

theorem Reply.Plain.ite {p : Prop} [Decidable p] {s : State} {x y : Reply} (hx : x.Plain s)
    (hy : y.Plain s) : (if p then x else y).Plain s := by
  split
  · exact hx
  · exact hy

section plain
variable (ps : List Byte) (s : State)

theorem identify_plain : (identify ps s).Plain s := by
  unfold identify
  split
  · exact .answer _ _ _
  · exact .refuse _ _

theorem readStatus_plain : (readStatus ps s).Plain s := by
  unfold readStatus
  split
  · exact .answer _ _ _
  · exact .refuse _ _

theorem resetCounters_plain : (resetCounters ps s).Plain s := by
  unfold resetCounters
  split
  · exact .answer _ _ _
  · exact .refuse _ _

theorem restartRequest_plain : (restartRequest ps s).Plain s := by
  unfold restartRequest
  split
  · exact .answer _ _ _
  · exact .refuse _ _

theorem setTrunk_plain : (setTrunk ps s).Plain s := by
  unfold setTrunk
  split
  · split
    · exact .refuse _ _
    · exact .answer _ _ _
  · exact .refuse _ _

theorem setProfile_plain : (setProfile ps s).Plain s := by
  unfold setProfile
  split
  · split
    · exact .answer _ _ _
    · exact .refuse _ _
  · exact .refuse _ _

theorem readProfile_plain : (readProfile ps s).Plain s := by
  unfold readProfile
  split
  · split
    · exact .answer _ _ _
    · exact .refuse _ _
  · exact .refuse _ _

theorem setSpur_plain : (setSpur ps s).Plain s := by
  unfold setSpur
  split
  · split
    · dsimp only
      split
      · exact .refuse _ _
      · exact .answer _ _ _
    · exact .refuse _ _
  · exact .refuse _ _

theorem readSpur_plain : (readSpur ps s).Plain s := by
  unfold readSpur
  split
  · split
    · exact .answer _ _ _
    · exact .refuse _ _
  · exact .refuse _ _

theorem openChannel_plain : (openChannel ps s).Plain s := by
  unfold openChannel
  split
  · split
    · split
      · exact .refuse _ _
      · split
        · exact .refuse _ _
        · exact .answer _ _ _
    · exact .refuse _ _
  · exact .refuse _ _

theorem closeAs_plain (c : Chan) (m : CloseMode) : (closeAs c m s).Plain s := by
  unfold closeAs
  dsimp only
  split
  · exact .refuse _ _
  · split
    · exact .accept _ _ _
    · exact .accept _ _ _
    · exact .accept _ _ _
    · exact .accept _ _ _
    · exact .refuse _ _

theorem closeChannel_plain : (closeChannel ps s).Plain s := by
  unfold closeChannel
  split
  · split
    · exact closeAs_plain _ _ _
    · exact .refuse _ _
  · exact .refuse _ _

theorem haltChannel_plain : (haltChannel ps s).Plain s := by
  unfold haltChannel
  split
  · split
    · exact .refuse _ _
    · split
      · exact .refuse _ _
      · split
        · exact .answer _ _ _
        · exact .refuse _ _
  · exact .refuse _ _

theorem resumeChannel_plain : (resumeChannel ps s).Plain s := by
  unfold resumeChannel
  split
  · split
    · exact .refuse _ _
    · split
      · exact .refuse _ _
      · split
        · exact .answer _ _ _
        · exact .refuse _ _
  · exact .refuse _ _

theorem readChannel_plain : (readChannel ps s).Plain s := by
  unfold readChannel
  split
  · split
    · exact .answer _ _ _
    · exact .refuse _ _
  · exact .refuse _ _

theorem setTee_plain : (setTee ps s).Plain s := by
  unfold setTee
  split
  · split
    · split
      · exact .refuse _ _
      · split
        · exact .refuse _ _
        · split
          · exact .answer _ _ _
          · split
            · exact .refuse _ _
            · exact .answer _ _ _
    · exact .refuse _ _
  · exact .refuse _ _

theorem createSegment_plain : (createSegment ps s).Plain s := by
  unfold createSegment
  split
  · split
    · exact .refuse _ _
    · split
      · exact .refuse _ _
      · split
        · exact .refuse _ _
        · exact .answer _ _ _
  · exact .refuse _ _

theorem writeSegment_plain : (writeSegment ps s).Plain s := by
  unfold writeSegment
  split
  · exact .refuse _ _
  · split
    · exact .refuse _ _
    · split
      · exact .refuse _ _
      · split
        · exact .refuse _ _
        · split
          · exact .refuse _ _
          · exact .answer _ _ _

theorem readSegment_plain : (readSegment ps s).Plain s := by
  unfold readSegment
  split
  · split
    · exact .refuse _ _
    · split
      · exact .refuse _ _
      · exact .ite (.refuse _ _) (.answer _ _ _)
  · exact .refuse _ _

theorem deleteSegment_plain : (deleteSegment ps s).Plain s := by
  unfold deleteSegment
  split
  · split
    · exact .refuse _ _
    · split
      · exact .refuse _ _
      · split
        · exact .refuse _ _
        · exact .answer _ _ _
  · exact .refuse _ _

theorem listSegments_plain : (listSegments ps s).Plain s := by
  unfold listSegments
  split
  · exact .answer _ _ _
  · exact .refuse _ _

theorem playSegment_plain : (playSegment ps s).Plain s := by
  unfold playSegment
  split
  · split
    · split
      · exact .refuse _ _
      · split
        · exact .refuse _ _
        · split
          · exact .refuse _ _
          · split
            · exact .refuse _ _
            · split
              · exact .refuse _ _
              · split
                · exact .refuse _ _
                · exact .answer _ _ _
    · exact .refuse _ _
  · exact .refuse _ _

theorem stopPlay_plain : (stopPlay ps s).Plain s := by
  unfold stopPlay
  split
  · split
    · exact .refuse _ _
    · split
      · exact .refuse _ _
      · split
        · exact .refuse _ _
        · exact .answer _ _ _
  · exact .refuse _ _

theorem setQuota_plain : (setQuota ps s).Plain s := by
  unfold setQuota
  split
  · split
    · exact .refuse _ _
    · split
      · exact .refuse _ _
      · exact .answer _ _ _
  · exact .refuse _ _

theorem executeRequest_plain (code : Byte) : (executeRequest code ps s).Plain s := by
  unfold executeRequest
  split
  · exact identify_plain ps s
  · exact readStatus_plain ps s
  · exact resetCounters_plain ps s
  · exact restartRequest_plain ps s
  · exact setTrunk_plain ps s
  · exact setProfile_plain ps s
  · exact readProfile_plain ps s
  · exact setSpur_plain ps s
  · exact readSpur_plain ps s
  · exact openChannel_plain ps s
  · exact closeChannel_plain ps s
  · exact haltChannel_plain ps s
  · exact resumeChannel_plain ps s
  · exact readChannel_plain ps s
  · exact setTee_plain ps s
  · exact createSegment_plain ps s
  · exact writeSegment_plain ps s
  · exact readSegment_plain ps s
  · exact deleteSegment_plain ps s
  · exact listSegments_plain ps s
  · exact playSegment_plain ps s
  · exact stopPlay_plain ps s
  · exact setQuota_plain ps s
  · exact .refuse _ _

end plain

/-- Settles O28. -/
theorem refusedRequestsChangeNothing : Obligations.RefusedRequestsChangeNothing := by
  unfold Obligations.RefusedRequestsChangeNothing
  intro c code seq ps s hs hw hb he x hok hacc
  obtain ⟨hfit, hexec⟩ := exec_request hb hw
  rcases executeRequest_plain ps (s.executing code seq ps) code with h | h | h
  · exact absurd h hok
  · exact absurd h hacc
  · rw [hexec]
    exact ⟨congrArg Reply.results h, request_refused hs he hfit h⟩

/-! ### Requests that read or set (R17, R41, R42, R95, R151 to R156, R184, R187) -/

/-- Settles O34. -/
theorem settingsReplaced : Obligations.SettingsReplaced := by
  unfold Obligations.SettingsReplaced
  refine fun s seq a b hs => ⟨fun he => ?_, fun he => ?_⟩
  · have hx : ∀ u, executeRequest 5 [a, b] u = if a = 0 then u.refuse .range else _ := fun _ => rfl
    refine ⟨fun ha => ?_, fun ha => ?_⟩
    · refine request_effect (ps := [a, b]) hs he rfl ((hx _).trans (if_neg ha))
    · exact request_refuses (ps := [a, b]) hs he rfl ((hx _).trans (if_pos ha))
  · intro q
    have hx : ∀ u, executeRequest 23 [a, b] u = if 1536 < q then u.refuse .range
      else if q < u.pool.segmentCells then u.refuse .quota else _ := fun _ => rfl
    refine ⟨fun hlow hhigh => ?_, fun hlow hhigh => ?_, fun hhigh => ?_⟩
    · exact request_effect (ps := [a, b]) hs he rfl ((hx _).trans
        ((if_neg (Nat.not_lt.mpr hhigh)).trans (if_neg (Nat.not_lt.mpr hlow))))
    · exact request_refuses (ps := [a, b]) hs he rfl ((hx _).trans
        ((if_neg (Nat.not_lt.mpr hhigh)).trans (if_pos hlow)))
    · exact request_refuses (ps := [a, b]) hs he rfl ((hx _).trans (if_pos hhigh))

/-- The fold of RESET COUNTERS sets every entry's counters to 0 (R187). -/
theorem zeroed_channel (s : State) (l : List Chan) (v : Vector Channel 47) (c : Chan) :
    (l.foldl (fun (v : Vector Channel 47) (c : Chan) => v.set c.val (s.channel c).zeroed) v)[c.val] =
      if c ∈ l then (s.channel c).zeroed else v[c.val] := by
  induction l generalizing v with
  | nil => simp
  | cons d l ih =>
    rw [List.foldl_cons, ih]
    by_cases hd : c = d
    · subst hd; simp
    · have hv : d.val ≠ c.val := fun e => hd (Fin.ext e.symm)
      simp [hd, hv]

/-- Settles O32. -/
theorem resetCountersZeroes : Obligations.ResetCountersZeroes := by
  unfold Obligations.ResetCountersZeroes
  intro s seq hs he
  refine ⟨_, fun c => (zeroed_channel s allChans s.channels c).trans (if_pos (List.mem_finRange c)),
    ?_⟩
  exact request_answered (params := []) hs he rfl rfl hs.busy hs.alone hs.agenda he.idle he.between
    he.descriptor he.requestCells he.responseCells

theorem twoBytes_length (n : Nat) : (twoBytes n).length = 2 := rfl

theorem State.laneBytes_length (s : State) (n : Spur) : (s.laneBytes n).length = 2 := rfl

theorem State.statusRecord_length (s : State) : s.statusRecord.length = 40 := by
  unfold State.statusRecord
  simp only [List.length_append, twoBytes_length, State.laneBytes_length, List.length_cons,
    List.length_nil]

/-- Settles O31. -/
theorem statusAndSpurRead : Obligations.StatusAndSpurRead := by
  unfold Obligations.StatusAndSpurRead
  refine ⟨fun s seq hs he => ?_, fun s seq n hs he => ?_⟩
  · have hread : executeRequest 2 [] (s.executing 2 seq []) =
        (s.executing 2 seq []).answer (s.executing 2 seq []).statusRecord := rfl
    refine (request_effect (ps := []) (t := s) hs ?_ rfl hread).trans ?_
    · rw [State.statusRecord_length]
      exact he
    · have hone : cellsFor (([] : List Byte).length + 2) = 1 := rfl
      unfold State.statusRecord State.laneBytes
      simp only [State.executing_pool, State.executing_store,
        State.executing_notices, State.executing_lane, State.executing_rx, State.executing_counts,
        State.executing_notClosed, State.executing_lastReset, Pool.holding, hone]
  · refine request_effect (ps := [BitVec.ofNat 8 n.val]) (t := s) hs he rfl ?_
    have hx : ∀ u, executeRequest 9 [BitVec.ofNat 8 n.val] u = readSpur [BitVec.ofNat 8 n.val] u :=
      fun _ => rfl
    rw [hx]
    simp only [readSpur, spurOf_ofNat_val, State.executing_lane, State.executing_queue]
    cases (s.lane n).state <;> rfl

/-- A granted claim took what it asked for (R139). -/
theorem Pool.claimOrdinary_take {p q : Pool} {d k : Nat} (h : p.claimOrdinary d k = some q) :
    q = p.take d k := by
  rcases Pool.claimOrdinary_some h with ⟨rfl, rfl, rfl⟩ | ⟨-, -, hq⟩
  · rfl
  · exact hq

/-- A granted claim leaves the unused reserve; without anything asked for it takes nothing. -/
theorem Pool.claimOrdinary_le {p q : Pool} {d k : Nat} (h : p.claimOrdinary d k = some q) :
    d ≤ p.freeDescriptors ∧ k ≤ p.freeCells := by
  rcases Pool.claimOrdinary_some h with ⟨rfl, rfl, -⟩ | ⟨-, hf, -⟩
  · exact ⟨Nat.zero_le _, Nat.zero_le _⟩
  · have hfits := (Pool.ordinaryFits_iff _ _ _).mp hf
    omega

/-- The four tests of an append (R149). -/
def State.fits (s : State) (g : Segment) (body : List Byte) : Prop :=
  g.entries.length < 255 ∧ g.cellsHeld + cellsFor body.length ≤ g.cellLimit ∧
  s.pool.segmentCells + cellsFor body.length ≤ s.store.quota ∧
  s.pool.claimOrdinary 0 (cellsFor body.length) ≠ none

/-- The state after an append (R148, R149). -/
def State.appended (s : State) (h : Handle) (g : Segment) (body : List Byte) : State :=
  { s.setSegment h (some { g with entries := g.entries ++ [body] }) with
    pool := { s.pool with
      freeCells := s.pool.freeCells - cellsFor body.length
      segmentCells := s.pool.segmentCells + cellsFor body.length } }

theorem append_fits {s : State} {h : Handle} {g : Segment} {body : List Byte}
    (hg : s.segment h = some g) (hf : s.fits g body) :
    append h body s = some (s.appended h g body) := by
  obtain ⟨hlen, hlimit, hquota, hclaim⟩ := hf
  obtain ⟨p, hp⟩ := Option.ne_none_iff_exists'.mp hclaim
  have htake := Pool.claimOrdinary_take hp
  have hcond : g.entries.length < Config.segmentEntries ∧
      g.cellsHeld + cellsFor body.length ≤ g.cellLimit ∧
      s.pool.segmentCells + cellsFor body.length ≤ s.store.quota := ⟨hlen, hlimit, hquota⟩
  simp only [append, hg, if_pos hcond, hp, htake]
  rfl

theorem append_fails {s : State} {h : Handle} {g : Segment} {body : List Byte}
    (hg : s.segment h = some g) (hf : ¬ s.fits g body) : append h body s = none := by
  simp only [append, hg]
  split
  · rename_i hcond
    cases hp : s.pool.claimOrdinary 0 (cellsFor body.length) with
    | none => rfl
    | some p => exact absurd ⟨hcond.1, hcond.2.1, hcond.2.2, by simp [hp]⟩ hf
  · rfl

/-- WRITE SEGMENT on a READY segment appends (R152). -/
theorem writeSegment_appends {s : State} {h : Handle} {g : Segment} {data : List Byte}
    (hg : s.segment h = some g) (hr : g.state = .ready) (hf : s.fits g data) :
    writeSegment (byteOf (handleNumber h) :: data) s =
      (s.appended h g data).answer (byteOf (g.entries.length + 1) ::
        twoBytes (g.cellsHeld + cellsFor data.length)) := by
  simp [writeSegment, hg, hr, append_fits hg hf]

theorem writeSegment_full {s : State} {h : Handle} {g : Segment} {data : List Byte}
    (hg : s.segment h = some g) (hr : g.state = .ready) (hf : ¬ s.fits g data) :
    writeSegment (byteOf (handleNumber h) :: data) s = s.refuse .full := by
  simp [writeSegment, hg, hr, append_fails hg hf]

/-- Settles O44. -/
theorem writeSegmentAppends : Obligations.WriteSegmentAppends := by
  unfold Obligations.WriteSegmentAppends
  intro s seq h g data hs he hdata hg hr request k fits
  have hfit : paramsFit (byteOf (handleNumber h) :: data) = true := by
    simp [paramsFit, Config.maxBody]
    omega
  refine ⟨fun hf => ?_, fun hf => ?_⟩
  · obtain ⟨p, hp⟩ := Option.ne_none_iff_exists'.mp hf.2.2.2
    have hroom : k ≤ s.pool.freeCells - cellsFor (data.length + 3) := (Pool.claimOrdinary_le hp).2
    have hreq : cellsFor (data.length + 3) ≤ s.pool.freeCells := he.requestCells
    have hone : cellsFor 6 ≤ cellsFor (data.length + 3) := by
      show 1 ≤ (data.length + 3 + 31) / 32
      omega
    refine request_answered (params := byteOf (handleNumber h) :: data)
      (t := s.appended h g data) hs he hfit ((writeSegment_appends
        (s := s.executing 17 seq (byteOf (handleNumber h) :: data)) hg hr hf).trans ?_) hs.busy
      hs.alone hs.agenda he.idle he.between he.descriptor ?_ ?_
    · simp only [State.appended, State.answer, State.executing, Pool.holding]
      rw [Nat.sub_right_comm]
      rfl
    · show cellsFor (data.length + 3) ≤ s.pool.freeCells - k
      omega
    · show cellsFor 6 ≤ s.pool.freeCells - k
      omega
  · exact request_refuses (ps := byteOf (handleNumber h) :: data) hs he hfit
      (writeSegment_full (s := s.executing 17 seq (byteOf (handleNumber h) :: data)) hg hr hf)

/-! ### SET TEE (R41, R42) -/

theorem State.setSegState_of {s : State} {h : Handle} {g : Segment} (hg : s.segment h = some g)
    (st : SegState) : s.setSegState h st = s.setSegment h (some { g with state := st }) := by
  simp only [State.setSegState, hg]

theorem State.setTee_of {s : State} {c : Chan} {l : Link} (hl : s.link c = some l)
    (t : Option Handle) : s.setTee c t = s.setLink c (some { l with tee := t }) := by
  simp only [State.setTee, hl]

section setTee
variable {s : State} {c : Chan} {l : Link} {t : Option Handle} (hl : s.link c = some l)
  (hd : l.isDraining = false)
include hl hd

theorem setTee_same :
    setTee [byteOf (chanNumber c), teeByte l.tee] s = s.answer [teeByte l.tee] := by
  simp [setTee, chanOf_byteOf_chanNumber, hl, hd]

theorem setTee_rebinds (ht : t ≠ l.tee) (hr : t.bind s.teeRefusal = none) :
    setTee [byteOf (chanNumber c), teeByte t] s =
      (rebindTee c l.tee t s).answer [teeByte l.tee] := by
  simp [setTee, chanOf_byteOf_chanNumber, hl, hd, ht, hr]

theorem setTee_refuses {st : Status} (ht : t ≠ l.tee) (hr : t.bind s.teeRefusal = some st) :
    setTee [byteOf (chanNumber c), teeByte t] s = s.refuse st := by
  simp [setTee, chanOf_byteOf_chanNumber, hl, hd, ht, hr]

end setTee

theorem State.teeRefusal_ready {s : State} {h : Handle} {g : Segment} (hg : s.segment h = some g)
    (hr : g.state = .ready) : s.teeRefusal h = none := by
  simp [State.teeRefusal, hg, hr]

theorem State.teeRefusal_busy {s : State} {h : Handle} {g : Segment} (hg : s.segment h = some g)
    (hr : g.state ≠ .ready) : s.teeRefusal h = some .busy := by
  simp [State.teeRefusal, hg, hr]

theorem State.teeRefusal_absent {s : State} {h : Handle} (hg : s.segment h = none) :
    s.teeRefusal h = some .absent := by
  simp [State.teeRefusal, hg]

section rebindTee
variable {s : State} {c : Chan} {l : Link} {h k : Handle} {g g' : Segment} (hl : s.link c = some l)
include hl

/-- A tee is bound (table of R42). -/
theorem rebindTee_binds (hg : s.segment h = some g) : rebindTee c none (some h) s =
    (s.setLink c (some { l with tee := some h })).setSegment h (some { g with state := .capturing }) := by
  rw [rebindTee, if_neg (by simp)]
  simp only [State.setSegState_of hg]
  exact State.setTee_of (by exact hl) _

/-- A tee is dropped (table of R42). -/
theorem rebindTee_drops (hg : s.segment h = some g) : rebindTee c (some h) none s =
    (s.setLink c (some { l with tee := none })).setSegment h (some { g with state := .ready }) := by
  rw [rebindTee, if_neg (by simp)]
  simp only [State.setSegState_of hg]
  exact State.setTee_of (by exact hl) _

/-- A tee moves (table of R42). -/
theorem rebindTee_exchanges (hg : s.segment h = some g) (hk : s.segment k = some g') (hne : k ≠ h) :
    rebindTee c (some h) (some k) s = ((s.setLink c (some { l with tee := some k })).setSegment h
      (some { g with state := .ready })).setSegment k (some { g' with state := .capturing }) := by
  have hk' : (s.setSegment h (some { g with state := .ready })).segment k = some g' := by
    rw [State.segment_setSegment_ne s hne, hk]
  rw [rebindTee, if_neg (by simp [hne.symm])]
  simp only [State.setSegState_of hg, State.setSegState_of hk']
  exact State.setTee_of (by exact hl) _

end rebindTee

/-- Settles O42. -/
theorem setTeeBinds : Obligations.SetTeeBinds := by
  unfold Obligations.SetTeeBinds
  intro s seq c l hs he hl hd tee request bound
  have hbusy : ∀ {t : Option Handle} {st : Status}, t ≠ l.tee → t.bind s.teeRefusal = some st →
      exec (request t) s = .next (s.answered 15 seq st []) := by
    intro t st hne hr
    exact request_refuses (ps := [byteOf (chanNumber c), teeByte t]) hs he rfl
      (setTee_refuses (s := s.executing 15 seq _) hl hd hne hr)
  have hbinds : ∀ (t : Option Handle) (u : State) (res : List Byte), t ≠ l.tee →
      t.bind s.teeRefusal = none →
      (∀ ps, rebindTee c l.tee t (s.executing 15 seq ps) = u.executing 15 seq ps) →
      [teeByte l.tee] = res → u.tx = s.tx → u.pool = s.pool → u.engine = s.engine →
      u.agenda = s.agenda → exec (request t) s = .next (u.answered 15 seq .ok res) := by
    intro t u res hne hr hu hres htx hp hen ha
    subst hres
    refine request_effect (ps := [byteOf (chanNumber c), teeByte t]) hs he rfl
      ((setTee_rebinds (s := s.executing 15 seq _) hl hd hne hr).trans ?_) htx hp hen ha
    rw [hu]
    rfl
  refine ⟨?_, fun h g ht hg hr => ?_, fun h g ht hg => ?_, fun h k g g' ht hne hg hk =>
    ⟨fun hr => ?_, fun hr => ?_⟩, fun k hne hk => ?_⟩
  · exact request_effect (ps := [byteOf (chanNumber c), teeByte l.tee]) (t := s) hs he rfl
      (setTee_same (s := s.executing 15 seq _) hl hd)
  · refine hbinds (some h) _ _ (by simp [ht]) (State.teeRefusal_ready hg hr) (fun ps => ?_)
      (by rw [ht]; rfl) rfl rfl rfl rfl
    rw [ht]
    exact rebindTee_binds (s := s.executing 15 seq ps) hl hg
  · refine hbinds none _ _ (by simp [ht]) rfl (fun ps => ?_) (by rw [ht]; rfl) rfl rfl rfl rfl
    rw [ht]
    exact rebindTee_drops (s := s.executing 15 seq ps) hl hg
  · refine hbinds (some k) _ _ (by simp [ht, hne]) (State.teeRefusal_ready hk hr) (fun ps => ?_)
      (by rw [ht]; rfl) rfl rfl rfl rfl
    rw [ht]
    exact rebindTee_exchanges (s := s.executing 15 seq ps) hl hg hk hne
  · exact hbusy (t := some k) (by simp [ht, hne]) (State.teeRefusal_busy hk hr)
  · exact hbusy (t := some k) (fun e => hne e.symm) (State.teeRefusal_absent hk)

/-! ### READ SEGMENT and LIST SEGMENTS (R153, R155) -/

/-- The results of READ SEGMENT for an entry (R153). -/
def Segment.details (g : Segment) (h : Handle) (offset : Byte) (entry : List Byte) : List Byte :=
  let data := (entry.drop offset.toNat).take 200
  [byteOf (handleNumber h), g.state.code, byteOf g.entries.length] ++ twoBytes g.totalBytes ++
    twoBytes g.cellLimit ++ [byteOf entry.length, offset, byteOf data.length] ++ data

theorem Segment.details_length_le (g : Segment) (h : Handle) (offset : Byte) (entry : List Byte) :
    (g.details h offset entry).length ≤ 210 := by
  have htake : ((entry.drop offset.toNat).take 200).length ≤ 200 := List.length_take_le _ _
  simp only [Segment.details, List.length_append, List.length_cons, List.length_nil,
    twoBytes_length]
  omega

section readSegment
variable {s : State} {h : Handle} {g : Segment} {index offset : Byte} {entry : List Byte}
  (hg : s.segment h = some g)
  (hentry : (if index = 0 then [] else g.entries.getD (index.toNat - 1) []) = entry)
include hg hentry

theorem readSegment_details (hi : index.toNat ≤ g.entries.length) (ho : offset.toNat ≤ entry.length) :
    readSegment [byteOf (handleNumber h), index, offset] s = s.answer (g.details h offset entry) := by
  have hin : ¬ (g.entries.length < index.toNat ∨ entry.length < offset.toNat) := by omega
  simp only [readSegment, handleOf_byteOf_handleNumber, hg, hentry, if_neg hin]
  rfl

theorem readSegment_range (hr : g.entries.length < index.toNat ∨ entry.length < offset.toNat) :
    readSegment [byteOf (handleNumber h), index, offset] s = s.refuse .range := by
  simp only [readSegment, handleOf_byteOf_handleNumber, hg, hentry, if_pos hr]

end readSegment

/-- Settles O45. -/
theorem readSegmentAnswer : Obligations.ReadSegmentAnswer := by
  unfold Obligations.ReadSegmentAnswer
  intro s seq h g index offset hs he hg request details
  have hread : ∀ entry, (if index = 0 then [] else g.entries.getD (index.toNat - 1) []) = entry →
      index.toNat ≤ g.entries.length → offset.toNat ≤ entry.length →
      exec request s = .next (s.answered 18 seq .ok (g.details h offset entry)) := by
    intro entry hentry hi ho
    exact request_effect (ps := [byteOf (handleNumber h), index, offset]) (t := s) hs
      (he.shorter (g.details_length_le h offset entry)) rfl
      (readSegment_details (s := s.executing 18 seq _) hg hentry hi ho)
  have hrange : ∀ entry, (if index = 0 then [] else g.entries.getD (index.toNat - 1) []) = entry →
      g.entries.length < index.toNat ∨ entry.length < offset.toNat →
      exec request s = .next (s.answered 18 seq .range []) := by
    intro entry hentry hr
    exact request_refuses (ps := [byteOf (handleNumber h), index, offset]) hs he rfl
      (readSegment_range (s := s.executing 18 seq _) hg hentry hr)
  have hat : ∀ i entry, index.toNat = i + 1 → g.entries[i]? = some entry →
      (if index = 0 then [] else g.entries.getD (index.toNat - 1) []) = entry ∧
        index.toNat ≤ g.entries.length := by
    intro i entry hi hentry
    have hne : index ≠ 0 := by rintro rfl; exact absurd hi (by simp)
    have hlt : i < g.entries.length := (List.getElem?_eq_some_iff.mp hentry).1
    refine ⟨?_, by omega⟩
    rw [if_neg hne, hi, Nat.add_sub_cancel, List.getD_eq_getElem?_getD, hentry, Option.getD_some]
  refine ⟨fun hi ho => ?_, fun i entry hi hentry ho => ?_, fun hi => hrange _ rfl (.inl hi),
    fun hi ho => ?_, fun i entry hi hentry ho => ?_⟩
  · rw [hread [] (if_pos hi) (by simp [hi]) (by simp [ho])]
    simp [Segment.details, details]
    rfl
  · exact hread entry (hat i entry hi hentry).1 (hat i entry hi hentry).2 ho
  · refine hrange [] (if_pos hi) (.inr ?_)
    rw [List.length_nil]
    exact Nat.pos_of_ne_zero fun e => ho (BitVec.eq_of_toNat_eq e)
  · exact hrange entry (hat i entry hi hentry).1 (.inr ho)

/-- The item of a handle in the list of segments, empty where no segment is (R155). -/
def State.segmentItemAt (s : State) (h : Handle) : List Byte :=
  match s.segment h with | some g => segmentItem h g | none => []

theorem State.segmentItemAt_length {s : State} (hl : ∀ h g, s.segment h = some g → g.label.length ≤ 8)
    {h : Handle} (hh : (s.segment h).isSome = true) : (s.segmentItemAt h).length = 14 := by
  obtain ⟨g, hg⟩ := Option.isSome_iff_exists.mp hh
  have hlabel := hl h g hg
  simp only [State.segmentItemAt, hg, segmentItem, List.length_append, List.length_cons,
    List.length_nil, twoBytes_length, List.length_replicate]
  omega

/-- The items of all handles are those of the existing segments, in their order. -/
theorem State.segmentItems_flatten (s : State) (l : List Handle) : l.flatMap s.segmentItemAt =
    ((l.filter fun h => (s.segment h).isSome).map s.segmentItemAt).flatten := by
  induction l with
  | nil => rfl
  | cons h l ih =>
    rw [List.flatMap_cons, ih]
    cases hg : s.segment h with
    | none => simp [hg, State.segmentItemAt]
    | some g => simp [hg]

theorem flatten_length_of_all {l : List (List Byte)} {n : Nat} (h : ∀ x ∈ l, x.length = n) :
    l.flatten.length = n * l.length := by
  induction l with
  | nil => rfl
  | cons x l ih =>
    have hx := h x (List.mem_cons_self ..)
    have hl := ih fun y hy => h y (List.mem_cons_of_mem _ hy)
    rw [List.flatten_cons, List.length_append, hx, hl, List.length_cons, Nat.mul_add]
    omega

/-- Settles O46. -/
theorem listSegmentsAnswer : Obligations.ListSegmentsAnswer := by
  unfold Obligations.ListSegmentsAnswer
  intro s seq hs hl handles he
  have hitems : ((handles.map s.segmentItemAt).flatten).length = 14 * handles.length := by
    rw [flatten_length_of_all (n := 14), List.length_map]
    intro x hx
    obtain ⟨h, hh, rfl⟩ := List.mem_map.mp hx
    exact State.segmentItemAt_length hl (List.mem_filter.mp hh).2
  refine ⟨handles.map s.segmentItemAt, ?_, List.length_map .., fun i h g hh hg => ⟨_, ?_, rfl⟩⟩
  · refine request_effect (ps := []) (t := s) hs ?_ rfl ?_
    · rw [List.length_cons, hitems, Nat.add_comm]
      exact he
    · rw [← State.segmentItems_flatten]
      rfl
  · rw [List.getElem?_map, hh, Option.map_some, State.segmentItemAt]
    simp only [hg, segmentItem, List.append_assoc]
    rfl

end Sys2Proof.Machine
end

section
/-! The requests whose rules go on after their first effects (09, 08, 02, 04): arrival and repeats, deleted
segments, profiles, spurs and the opening of channels. -/

namespace Sys2Proof.Machine

-- the proofs are elaborated one after another: all at once they ask for too many threads
set_option Elab.async false

/-! ### Arrival (R12, R173) -/

/-- The state in which a good parcel's hand-off begins: the receiver is back in HUNT (R8). -/
def State.checked (s : State) (d : Byte) : State :=
  { s.latched false d with
    rx := { s.rx with breakTimer := .stopped, sum := 0, gapTimer := none, state := .hunt } }

/-- The check beat of a good tag-0 parcel with storage hands its body to the engine (R8, R12). -/
theorem exec_trunkInBeat_delivers {s : State} {d : Byte} {p : Reception} {body : List Byte}
    (hs : Settled s) (hq : s.trunkIn.tirq = false) (hst : s.rx.state = .check p)
    (hsum : s.rx.sum + d = 0) (h0 : p.tag = 0) (hbs : p.stored = some body) :
    exec (.trunkInBeat false d) s =
      .next ((s.checked d).doing [.arrival body, .arbiter]).carryOut := by
  rw [exec_trunkInBeat hs hq, State.act_live hs.live, hs.push_arbiter]
  rw [rxBeat_check (by exact hst), checkBeat_good (by exact hsum), handOff_stored_request hbs h0]
  rw [State.checked, ← hsum]
  rfl

/-- A body of fewer than two bytes is malformed (R173 case 1). -/
theorem arrival_short {body : List Byte} (h : body.length < 2) (s : State) : arrival body s =
    (s.countEngine fun k => { k with malformed := satInc k.malformed }).giveBack true 1
      (cellsFor body.length) := by
  match body, h with
  | [], _ => rfl
  | [_], _ => rfl

section arrival
variable {s : State} {code seq : Byte} {ps : List Byte}

theorem arrival_duplicate (h : ∃ r ∈ s.engine.requests, r.seq = seq) :
    arrival (code :: seq :: ps) s =
      (s.countEngine fun k => { k with duplicates := satInc k.duplicates }).giveBack true 1
        (cellsFor (ps.length + 2)) := by
  have hany : (s.engine.requests.any fun r => decide (r.seq = seq)) = true := by simpa using h
  simp only [arrival, requestArrival, hany, if_true]

variable (hnew : ∀ r ∈ s.engine.requests, r.seq ≠ seq)
include hnew

theorem arrival_lost (hfull : 4 ≤ s.engine.requests.length) (hrec : s.engine.records = none) :
    arrival (code :: seq :: ps) s =
      (State.countEngine { s with notices := s.notices.arrive (.reqlost code seq) } fun k =>
        { k with lost := satInc k.lost }).giveBack true 1 (cellsFor (ps.length + 2)) := by
  have hany : ¬ (s.engine.requests.any fun r => decide (r.seq = seq)) = true := by simpa using hnew
  simp only [arrival, requestArrival, if_neg hany, if_pos (show Config.requestDepth ≤ _ from hfull),
    State.record_now hrec]

theorem arrival_joins (hroom : s.engine.requests.length < 4) : arrival (code :: seq :: ps) s =
    State.push { s with engine := { s.engine with requests := s.engine.requests ++
      [{ code := code, seq := seq, params := ps, discard := false }] } } [.engine] := by
  have hany : ¬ (s.engine.requests.any fun r => decide (r.seq = seq)) = true := by simpa using hnew
  have hfull : ¬ Config.requestDepth ≤ s.engine.requests.length := Nat.not_le.mpr hroom
  simp only [arrival, requestArrival, if_neg hany, if_neg hfull]

end arrival

/-- The engine does not execute while the restart hold is set or the response queue is full (R174,
R177). -/
theorem engineTurn_waits {s : State} (h : s.engine.hold = true ∨ 4 ≤ s.arbiter.responses.length) :
    engineTurn s = s := by
  unfold engineTurn
  split
  · rfl
  · rename_i hheld
    rcases h with h | h
    · simp [h] at hheld
    · exact if_pos h

/-- A parcel's storage, given back and claimed again with the same standing. -/
theorem Pool.claimManagement_put {p : Pool} {d k : Nat} (hd : d ≤ p.mgmtDescriptors)
    (hk : k ≤ p.mgmtCells) : (p.put true d k).claimManagement d k = some p := by
  rw [Pool.claimManagement_eq, if_pos ⟨by simp, by simp⟩]
  simp only [Pool.put, if_true, Option.some.injEq]
  cases p
  simp only [Pool.mk.injEq, and_true]
  simp only at hd hk
  omega

/-! ### Repeats (R178) -/

/-- The oldest request repeats the remembered response (R174 step 2). -/
theorem engineTurn_repeats {s : State} {r : Request} {rest : List Request} {a : Answer}
    (hhold : s.engine.hold = false) (hrec : s.engine.records = none)
    (hslot : s.arbiter.responses.length < 4) (hr : s.engine.requests = r :: rest)
    (ha : s.engine.repeats r = some a) : engineTurn s = repeatAnswer r a s := by
  have hfull : ¬ Config.responseDepth ≤ s.arbiter.responses.length := Nat.not_le.mpr hslot
  simp [engineTurn, hhold, hrec, hfull, hr, ha]

/-- A repeat of the remembered response is answered with a copy of it (R178). -/
theorem request_repeats {s : State} {code seq : Byte} {ps : List Byte} {a : Answer} (hs : Settled s)
    (hf : paramsFit ps = true) (hidle : s.engine.requests = []) (hhold : s.engine.hold = false)
    (hrec : s.engine.records = none) (hslot : s.arbiter.responses.length < 4)
    (hm : s.engine.remembered = some a) (hcode : a.code = code) (hseq : a.seq = seq)
    (hd : 1 ≤ s.pool.freeDescriptors) (hk : cellsFor (ps.length + 2) ≤ s.pool.freeCells)
    (hk' : cellsFor (a.results.length + 3) ≤ s.pool.freeCells) :
    request code seq ps s = .next { s with
      pool := s.pool.holding (a.results.length + 3)
      arbiter := { s.arbiter with
        responses := s.arbiter.responses ++ [{ answer := a, restart := false }] }
      engine := { s.engine with counts :=
        { s.engine.counts with repeats := satInc s.engine.counts.repeats } } } := by
  let r : Request := { code := code, seq := seq, params := ps, discard := false }
  let u : State := { s with
    pool := s.pool.holding (ps.length + 2), engine := { s.engine with requests := [r] } }
  let t : State := { s with
    pool := s.pool.holding (a.results.length + 3)
    arbiter := { s.arbiter with
      responses := s.arbiter.responses ++ [{ answer := a, restart := false }] }
    engine := { s.engine with counts :=
      { s.engine.counts with repeats := satInc s.engine.counts.repeats } } }
  have hdeliver : deliver (code :: seq :: ps) (s.doing [.arbiter]) =
      State.doing { s with pool := s.pool.holding (ps.length + 2) }
        [.arrival (code :: seq :: ps), .arbiter] := by
    simp only [deliver, State.doing_pool, List.length_cons, Pool.claimManagement_holding hd hk]
    rfl
  have harrive : doJob (.arrival (code :: seq :: ps))
      (State.doing { s with pool := s.pool.holding (ps.length + 2) } [.arbiter]) =
      u.doing [.engine, .arbiter] := by
    refine (arrival_joins (by simp [hidle]) (by simp [hidle])).trans ?_
    simp only [hidle, State.doing_engine, List.nil_append]
    rfl
  have hmatch : (u.doing [.arbiter]).engine.repeats r = some a := by
    simp [Engine.repeats, u, r, hm, hcode, hseq]
  have hturn : doJob .engine (u.doing [.arbiter]) = repeatAnswer r a (u.doing [.arbiter]) :=
    engineTurn_repeats (by exact hhold) (by exact hrec) (by exact hslot) rfl hmatch
  have hqueue : repeatAnswer r a (u.doing [.arbiter]) = t.doing [.serve, .engine, .arbiter] := by
    have hfit : fitAnswer r a (s.pool.holding (ps.length + 2)) =
        (a, s.pool.holding (a.results.length + 3)) := fitAnswer_holding r a s.pool hd hk hk'
    show queueAnswer r a false false _ = _
    simp [queueAnswer, State.countEngine, State.handRecords, State.push, State.doing, u, t, hfit,
      hrec, hidle]
  rw [request, if_pos hf]
  refine State.act_ends (n := 4) hs ?_ (by norm_num) hs.busy hs.agenda
  rw [hdeliver]
  exact .next harrive (.next (hturn.trans hqueue) (.serve (by exact hs.alone)
    (.next (engineTurn_idle (by exact hidle)) (.refl 0 (t.doing [.arbiter])))))

/-- Settles O29. -/
theorem repeatedRequestAnsweredAgain : Obligations.RepeatedRequestAnsweredAgain := by
  unfold Obligations.RepeatedRequestAnsweredAgain
  refine ⟨fun s d p body hs hq hst hsum h0 hbs hrec => ?_,
    fun code seq ps a s hs hf hidle hhold hrec hslot hm hcode hseq hd hk hk' =>
      request_repeats hs hf hidle hhold hrec hslot hm hcode hseq hd hk hk'⟩
  intro e got becomes back
  have hleads : ∀ (n : Nat) (t : State),
      Leads n (arrival body ((s.checked d).doing [.arbiter])) (t.doing [.arbiter]) → n ≤ 1000 →
      t.tx = s.tx → t.agenda = s.agenda → becomes t := by
    intro n t h hn htx ha
    refine (exec_trunkInBeat_delivers hs hq hst hsum h0 hbs).trans (congrArg _ ?_)
    have hdone : t.doing [] = t := State.doing_same (ha.trans hs.agenda)
    have hlast : Leads 1 (t.doing [.arbiter]) t :=
      .next (u := t) (hdone ▸ arbitrate_busy (htx ▸ hs.busy)) (.refl 0 t)
    exact (Leads.job (h.trans hlast)).carryOut (by omega) (ha.trans hs.agenda)
  refine ⟨fun hshort => ?_, fun code seq ps hbody => ⟨fun hdup => ?_, fun hnew hfull => ?_,
    fun hnew hroom hwait => ?_, fun c hw hc hd hk => ?_⟩⟩
  · refine hleads 1 _ ?_ (by norm_num) rfl rfl
    rw [arrival_short hshort]
    exact .serve (by exact (Pool.put_waiting _ _ _ _).trans hs.alone) (.of_eq rfl)
  · subst hbody
    refine hleads 1 _ ?_ (by norm_num) rfl rfl
    rw [arrival_duplicate (by exact hdup)]
    exact .serve (by exact (Pool.put_waiting _ _ _ _).trans hs.alone) (.of_eq rfl)
  · subst hbody
    refine hleads 1 _ ?_ (by norm_num) rfl rfl
    rw [arrival_lost (by exact hnew) (by exact hfull) (by exact hrec)]
    exact .serve (by exact (Pool.put_waiting _ _ _ _).trans hs.alone) (.of_eq rfl)
  · subst hbody
    refine hleads 1 _ ?_ (by norm_num) rfl rfl
    rw [arrival_joins (by exact hnew) (by exact hroom)]
    refine .job (rest := [.arbiter]) (.of_eq ((engineTurn_waits (by exact hwait)).trans rfl))
  · subst hbody
    obtain ⟨hfit, hexec⟩ := exec_request hc hw
    rw [hexec, exec_trunkInBeat_delivers hs hq hst hsum h0 hbs, request, if_pos hfit]
    rw [State.act_live (by exact hs.live)]
    have hclaim : back.claimManagement 1 (cellsFor (code :: seq :: ps).length) = some s.pool :=
      Pool.claimManagement_put hd hk
    congr 2
    simp only [deliver, State.push_pool, got, hclaim]
    simp [State.push, State.doing, State.checked, State.latched, hs.agenda]

/-! ### Requests whose rules go on after their first effects (R174, R176) -/

/-- The execution in progress has made these records (R176). -/
def State.recording (s : State) (rs : List Record) : State :=
  { s with engine := { s.engine with records := some rs } }

/-- An act followed to the end of its agenda by the engine's own count of rules. -/
theorem Leads.goOn {n m : Nat} {s t : State} (h : Leads n s t) (hn : n ≤ m) (ht : t.agenda = []) :
    goOn Config.endlessBound (run m s) = t := by
  obtain ⟨k, hk, hrun⟩ := h
  rw [show m = (m - k) + k by omega, hrun, run_settled ht, goOn_settled ht]

/-- A request that finds the engine idle: what its rule put on the agenda is carried out, then its response
takes its place, and then the records of the execution are handed on (R174, R176). -/
theorem request_ends {s u t : State} {code seq : Byte} {ps : List Byte} {st : Status}
    {results : List Byte} {rs : List Record} {n res : Nat} (hs : Settled s)
    (he : Ready s code seq ps.length res) (hf : paramsFit ps = true)
    (hx : executeRequest code ps (s.executing code seq ps) =
      { state := u, status := st, results := results })
    (hl : Leads n (u.doing (u.agenda ++ [.respond st results, .arbiter]))
      (((t.executing code seq ps).recording rs).doing [.respond st results, .arbiter]))
    (hn : n ≤ 1000000) (htx : t.tx = s.tx) (ha : t.agenda = s.agenda) (hen : t.engine = s.engine)
    (hw : t.pool.waiting = []) (hd : 1 ≤ t.pool.freeDescriptors)
    (hk : cellsFor (ps.length + 2) ≤ t.pool.freeCells)
    (hk' : cellsFor (results.length + 3) ≤ t.pool.freeCells) :
    request code seq ps s = .next (State.answered
      { t with notices := rs.foldl Notices.arrive t.notices } code seq st results) := by
  let v := State.answered { t with notices := rs.foldl Notices.arrive t.notices } code seq st results
  have hr : t.engine.requests = [] := hen ▸ he.idle
  have hrec : t.engine.records = none := hen ▸ he.between
  have hfit : fitAnswer { code := code, seq := seq, params := ps, discard := false }
      { code := code, seq := seq, status := st, results := results }
      (t.pool.holding (ps.length + 2)) =
      ({ code := code, seq := seq, status := st, results := results },
        t.pool.holding (results.length + 3)) := fitAnswer_holding _ _ t.pool hd hk hk'
  have hrespond : doJob (.respond st results)
      (((t.executing code seq ps).recording rs).doing [.arbiter]) =
      v.doing [.serve, .engine, .arbiter] := by
    simp only [doJob, respond, State.recording, State.executing, State.doing, queueAnswer, hfit]
    simp [State.handRecords, State.push, State.answered, v, hr, hrec]
  have hdone : v.doing [] = v := State.doing_same (ha.trans hs.agenda)
  have hlast : Leads 3 (v.doing [.serve, .engine, .arbiter]) v :=
    .serve (by exact hw) (.next (engineTurn_idle (by exact hr))
      (.next (u := v) (hdone ▸ arbitrate_busy (by exact htx ▸ hs.busy)) (.refl 0 v)))
  rw [request_execution hs he hf hx]
  exact congrArg _ ((hl.trans (.next hrespond hlast)).goOn (by omega) (ha.trans hs.agenda))

/-! ### CREATE SEGMENT and DELETE SEGMENT (R151, R154) -/

/-- The lowest index that passes a test. -/
theorem find_lowest {n : Nat} {p : Fin n → Bool} {a : Fin n} (ha : p a = true)
    (hlow : ∀ b, b < a → p b = false) : (List.finRange n).find? p = some a := by
  rw [List.find?_eq_some_iff_getElem]
  refine ⟨ha, a.val, by simp, by simp, fun j hj => ?_⟩
  rw [List.getElem_finRange, hlow _ (by exact hj)]
  rfl

theorem createSegment_checked {hi lo : Byte} {label : List Byte} (h1 : 1 ≤ wordOf hi lo)
    (h2 : wordOf hi lo ≤ 1536) (h8 : label.length ≤ 8)
    (hp : ∀ b ∈ label, 0x20 ≤ b.toNat ∧ b.toNat ≤ 0x7E) (s : State) :
    createSegment (hi :: lo :: byteOf label.length :: label) s =
      (s.freeHandle.elim (s.refuse .full) fun h => (s.setSegment h (some
        { label := label, state := .ready, cellLimit := wordOf hi lo, entries := [] })).answer
          [byteOf (handleNumber h)]) := by
  have hlen : (byteOf label.length).toNat = label.length := by
    simp only [byteOf, BitVec.toNat_ofNat]
    omega
  have hall : label.all labelChar = true := by
    simpa [labelChar] using hp
  have hrange : ¬ (wordOf hi lo = 0 ∨ Config.maxSegmentCells < wordOf hi lo ∨
      8 < (byteOf label.length).toNat ∨ label.all labelChar = false) := by
    have hmax : Config.maxSegmentCells = 1536 := rfl
    rw [hlen, hall, hmax]
    simp
    omega
  rw [createSegment, if_neg (by simp [hlen]), if_neg hrange]
  cases s.freeHandle <;> rfl

/-- DELETE SEGMENT on a READY segment gives its cells back (R154). -/
theorem deleteSegment_ready {s : State} {h : Handle} {g : Segment} (hg : s.segment h = some g)
    (hr : g.state = .ready) : deleteSegment [byteOf (handleNumber h)] s =
      (removeSegment h g s).answer (twoBytes g.cellsHeld) := by
  simp [deleteSegment, hg, hr]

theorem deleteSegment_busy {s : State} {h : Handle} {g : Segment} (hg : s.segment h = some g)
    (hr : g.state ≠ .ready) : deleteSegment [byteOf (handleNumber h)] s = s.refuse .busy := by
  simp [deleteSegment, hg, hr]

theorem deleteSegment_absent {s : State} {h : Handle} (hg : s.segment h = none) :
    deleteSegment [byteOf (handleNumber h)] s = s.refuse .absent := by
  simp [deleteSegment, hg]

/-- Settles O43. -/
theorem segmentsCreatedAndDeleted : Obligations.SegmentsCreatedAndDeleted := by
  unfold Obligations.SegmentsCreatedAndDeleted
  refine ⟨fun s seq hi lo label h hs he h1 h2 h8 hp => ?_, fun s seq h hs he => ?_⟩
  · intro request
    have hfit : paramsFit (hi :: lo :: byteOf label.length :: label) = true := by
      simp [paramsFit, Config.maxBody]
      omega
    have he' : Ready s 16 seq (hi :: lo :: byteOf label.length :: label).length 1 := by
      rw [show (hi :: lo :: byteOf label.length :: label).length = 3 + label.length from
        Nat.add_comm label.length 3]
      exact he
    have hx := createSegment_checked h1 h2 h8 hp
      (s.executing 16 seq (hi :: lo :: byteOf label.length :: label))
    refine ⟨fun hnone hlow => ?_, fun hall => ?_⟩
    · have hfree : s.freeHandle = some h := find_lowest (by simp [hnone]) fun k hk => by
        simpa [Option.isSome_iff_ne_none] using hlow k hk
      rw [State.executing_freeHandle, hfree] at hx
      exact request_effect (ps := hi :: lo :: byteOf label.length :: label) hs he' hfit hx
    · have hfree : s.freeHandle = none := by
        simpa [State.freeHandle, Option.isSome_iff_ne_none] using hall
      rw [State.executing_freeHandle, hfree] at hx
      exact request_refuses (ps := hi :: lo :: byteOf label.length :: label) hs he' hfit hx
  · intro request
    refine ⟨fun g hg hr => ?_, fun g hg hr => ?_, fun hg => ?_⟩
    · refine request_ends (ps := [byteOf (handleNumber h)]) (rs := []) (n := 1)
        (t := { s.setSegment h none with pool := { s.pool with
          segmentCells := s.pool.segmentCells - g.cellsHeld
          freeCells := s.pool.freeCells + g.cellsHeld } }) hs he rfl
        (deleteSegment_ready (s := s.executing 19 seq _) hg hr)
        (.serve (by exact hs.alone) (.of_eq ?_)) (by norm_num) rfl rfl rfl hs.alone he.descriptor
        (he.requestCells.trans (Nat.le_add_right _ _)) (he.responseCells.trans (Nat.le_add_right _ _))
      have hcells : cellsFor 3 ≤ s.pool.freeCells := he.requestCells
      have hcomm : s.pool.freeCells - cellsFor 3 + g.cellsHeld =
          s.pool.freeCells + g.cellsHeld - cellsFor 3 := by omega
      show _ = State.doing (State.recording (State.executing _ _ _ _) _) _
      simp only [State.executing, State.recording, Pool.holding]
      rw [show ([byteOf (handleNumber h)].length + 2) = 3 from rfl, ← hcomm]
      rfl
    · exact request_refuses (ps := [byteOf (handleNumber h)]) hs he rfl
        (deleteSegment_busy (s := s.executing 19 seq _) hg hr)
    · exact request_refuses (ps := [byteOf (handleNumber h)]) hs he rfl
        (deleteSegment_absent (s := s.executing 19 seq _) hg)

end Sys2Proof.Machine
end

section
/-! One spur's column under an act (04): the state written as a base state with one column and an agenda of
its own, so that each rule's effect on the lane, the Gather Unit and the queue is an equation; and the
requests and events that touch a lane alone. -/

namespace Sys2Proof.Machine

-- the proofs are elaborated one after another: all at once they ask for too many threads
set_option Elab.async false

/-! ### The state with one column and the agenda set apart -/

/-- The state s, but with this column of spur n and these rules of the act still to take. -/
def State.at (s : State) (n : Spur) (col : Column) (js : List Job) : State :=
  (s.setColumn n col).doing js

theorem State.setColumn_column (s : State) (n : Spur) : s.setColumn n (s.column n) = s := by
  have hset : s.columns.set n.val (s.column n) = s.columns := Vector.set_getElem_self _
  rw [State.setColumn, hset]

theorem State.at_self (s : State) (n : Spur) (js : List Job) : s.at n (s.column n) js = s.doing js := by
  rw [State.at, State.setColumn_column]

theorem State.setColumn_setColumn (s : State) (n : Spur) (a b : Column) :
    (s.setColumn n a).setColumn n b = s.setColumn n b := by
  simp only [State.setColumn, Vector.set_set]

section at_reads
variable (s : State) (n : Spur) (col : Column) (js : List Job)

@[simp] theorem State.at_tx : (s.at n col js).tx = s.tx := rfl
@[simp] theorem State.at_pool : (s.at n col js).pool = s.pool := rfl
@[simp] theorem State.at_engine : (s.at n col js).engine = s.engine := rfl
@[simp] theorem State.at_arbiter : (s.at n col js).arbiter = s.arbiter := rfl
@[simp] theorem State.at_notices : (s.at n col js).notices = s.notices := rfl
@[simp] theorem State.at_store : (s.at n col js).store = s.store := rfl
@[simp] theorem State.at_channels : (s.at n col js).channels = s.channels := rfl
@[simp] theorem State.at_agenda : (s.at n col js).agenda = js := rfl
@[simp] theorem State.at_column : (s.at n col js).column n = col := State.column_setColumn s n col
@[simp] theorem State.at_lane : (s.at n col js).lane n = col.lane := by
  rw [State.lane, State.at_column]
@[simp] theorem State.at_gather : (s.at n col js).gather n = col.gather := by
  rw [State.gather, State.at_column]
@[simp] theorem State.at_queue : (s.at n col js).queue n = col.queue := by
  rw [State.queue, State.at_column]
@[simp] theorem State.at_channel (c : Chan) : (s.at n col js).channel c = s.channel c := rfl
@[simp] theorem State.at_link (c : Chan) : (s.at n col js).link c = s.link c := rfl
@[simp] theorem State.at_credit (c : Chan) : (s.at n col js).credit c = s.credit c := rfl
@[simp] theorem State.at_inChan (m : Spur) : (s.at n col js).inChan m = s.inChan m := rfl
@[simp] theorem State.at_openIn (m : Spur) : (s.at n col js).openIn m = s.openIn m := rfl
@[simp] theorem State.at_inSettings (c : Chan) : (s.at n col js).inSettings c = s.inSettings c := rfl
@[simp] theorem State.at_inProfile (c : Chan) : (s.at n col js).inProfile c = s.inProfile c := rfl
@[simp] theorem State.at_profile (k : ProfileNo) : (s.at n col js).profile k = s.profile k := rfl
@[simp] theorem State.at_serviceable : (s.at n col js).serviceable = s.serviceable := rfl
@[simp] theorem State.at_chanOpen (c : Chan) : (s.at n col js).chanOpen c = s.chanOpen c := rfl
@[simp] theorem State.at_context (i : Context) : (s.at n col js).context i = s.context i := rfl
@[simp] theorem State.at_segment (h : Handle) : (s.at n col js).segment h = s.segment h := rfl
@[simp] theorem State.at_contextOf (c : Chan) : (s.at n col js).contextOf c = s.contextOf c := rfl
@[simp] theorem State.at_outWork : (s.at n col js).outWork n = col.queue.any s.serviceable := by
  rw [State.outWork, State.at_queue, State.at_serviceable]
@[simp] theorem State.at_attentionHeard : (s.at n col js).attentionHeard n =
    (col.lane.atn && decide (col.lane.config.attention = .honor) && (s.openIn n).isSome) := by
  rw [State.attentionHeard, State.at_lane, State.at_openIn]
theorem State.at_column_ne {m : Spur} (h : m ≠ n) : (s.at n col js).column m = s.column m :=
  State.column_setColumn_ne s h col

end at_reads

section at_writes
variable (s : State) (n : Spur) (col : Column) (js : List Job)

@[simp] theorem State.at_setColumn (x : Column) : (s.at n col js).setColumn n x = s.at n x js := by
  rw [State.at, State.at, State.doing, State.doing, ← State.setColumn_setColumn s n col x]
  rfl
@[simp] theorem State.at_setLane (l : Lane) :
    (s.at n col js).setLane n l = s.at n { col with lane := l } js := by
  rw [State.setLane, State.at_column, State.at_setColumn]
@[simp] theorem State.at_setGather (g : Gather) :
    (s.at n col js).setGather n g = s.at n { col with gather := g } js := by
  rw [State.setGather, State.at_column, State.at_setColumn]
@[simp] theorem State.at_setQueue (q : List Outbound) :
    (s.at n col js).setQueue n q = s.at n { col with queue := q } js := by
  rw [State.setQueue, State.at_column, State.at_setColumn]
@[simp] theorem State.at_setSending (x : Sending) : (s.at n col js).setSending n x =
    s.at n { col with lane := { col.lane with sending := some x } } js := by
  rw [State.setSending, State.at_setLane, State.at_lane]
@[simp] theorem State.at_setGatherState (g : GatherState) : (s.at n col js).setGatherState n g =
    s.at n { col with gather := { col.gather with state := g } } js := by
  rw [State.setGatherState, State.at_setGather, State.at_gather]
@[simp] theorem State.at_takeInSnap (p : Profile) : (s.at n col js).takeInSnap n p =
    s.at n { col with
      lane := { col.lane with inSnap := some p }
      gather := { col.gather with lossy := p.discipline.lossy } } js := by
  simp only [State.takeInSnap, State.at_setLane, State.at_setGather, State.at_lane, State.at_gather]
@[simp] theorem State.at_doing (ks : List Job) : (s.at n col js).doing ks = s.at n col ks := rfl
@[simp] theorem State.at_push (ks : List Job) : (s.at n col js).push ks = s.at n col (ks ++ js) := rfl
@[simp] theorem State.at_later (j : Job) : (s.at n col js).later j = s.at n col (js ++ [j]) := rfl
@[simp] theorem State.at_giveBack (m : Bool) (d k : Nat) : (s.at n col js).giveBack m d k =
    State.at { s with pool := s.pool.put m d k } n col (.serve :: js) := rfl
@[simp] theorem State.at_joinWaiting (w : Claimant) (d k : Nat) :
    (s.at n col js).joinWaiting w d k = (s.joinWaiting w d k).at n col js := rfl
@[simp] theorem State.at_setLink (c : Chan) (l : Option Link) :
    (s.at n col js).setLink c l = (s.setLink c l).at n col js := rfl
@[simp] theorem State.at_countParcel (c : Chan) (k : Nat) :
    (s.at n col js).countParcel c k = (s.countParcel c k).at n col js := rfl
@[simp] theorem State.at_countDrop (c : Chan) :
    (s.at n col js).countDrop c = (s.countDrop c).at n col js := rfl
@[simp] theorem State.at_setContext (i : Context) (x : Option Playback) :
    (s.at n col js).setContext i x = (s.setContext i x).at n col js := rfl
@[simp] theorem State.at_setSegment (h : Handle) (x : Option Segment) :
    (s.at n col js).setSegment h x = (s.setSegment h x).at n col js := rfl
@[simp] theorem State.at_record (r : Record) :
    (s.at n col js).record r = (s.record r).at n col js := by
  unfold State.record
  split <;> simp_all <;> rfl

end at_writes

/-! ### The lane's own changes -/

/-- The yield timer follows outbound work and the facing of the lane (R75). -/
def Lane.synced (l : Lane) (work : Bool) : Lane :=
  if work && l.state.inward then
    if l.yieldTimer = none ∧ l.yieldDue = false then { l with yieldTimer := some l.config.yield } else l
  else { l with yieldTimer := none }

/-- The lane once it takes no beats (R74). -/
def Lane.stopped (l : Lane) : Lane :=
  { l with inSnap := none, offer := false, pulses := .none
           strobe := if l.offer then false else l.strobe }

/-- The lane in a turnaround (R68, R69). -/
def Lane.turning (l : Lane) (st : LaneState) : Lane :=
  { l with state := st, strobe := false, drive := none, guardTimer := some l.config.guard }

theorem Lane.synced_idle {l : Lane} {work : Bool} (h : work = false ∨ l.state.inward = false) :
    l.synced work = { l with yieldTimer := none } := by
  unfold Lane.synced
  rw [if_neg]
  rcases h with h | h <;> simp [h]

section lane_rules
variable (s : State) (n : Spur) (col : Column) (js : List Job)

theorem syncYield_at : syncYield n (s.at n col js) =
    s.at n { col with lane := col.lane.synced (col.queue.any s.serviceable) } js := by
  simp only [syncYield, State.at_lane, State.at_outWork, State.at_setLane, Lane.synced]
  split
  · split <;> rfl
  · rfl

theorem stopTaking_at : stopTaking n (s.at n col js) =
    s.at n { col with lane := col.lane.stopped } js := by
  simp only [stopTaking, State.at_lane, State.at_setLane]
  rfl

theorem turnIn_at : turnIn n (s.at n col js) =
    s.at n { col with lane := (col.lane.turning .turnIn).synced (col.queue.any s.serviceable) } js := by
  simp only [turnIn, State.at_lane, State.at_setLane, syncYield_at]
  rfl

theorem turnOut_at : turnOut n (s.at n col js) =
    s.at n { col with
      lane := { col.lane.stopped.turning .turnOut with yieldTimer := none } } js := by
  simp only [turnOut, stopTaking_at, State.at_lane, State.at_setLane, syncYield_at]
  rw [Lane.synced_idle (by exact .inr rfl)]
  rfl

theorem enterIdle_at (st : LaneState) : enterIdle n st (s.at n col js) =
    s.at n { col with
      lane := { col.lane with state := st, workSeen := col.queue.any s.serviceable } } js := by
  simp only [enterIdle, State.at_lane, State.at_setLane, State.at_outWork]

end lane_rules

/-! ### The lane's decisions (R71 to R73) -/

theorem decideLane_idleOut {s : State} {n : Spur} (h : (s.lane n).state = .idleOut) :
    decideLane n s = decideOut n s := by
  simp only [decideLane, h]

theorem decideLane_idleIn {s : State} {n : Spur} (h : (s.lane n).state = .idleIn) :
    decideLane n s = decideIn n s := by
  simp only [decideLane, h]

theorem decideOut_attention {s : State} {n : Spur} (ha : s.attentionHeard n = true)
    (ho : (s.lane n).yieldOwed = false) : decideOut n s = turnIn n s := by
  simp [decideOut, ha, ho]

/-- A lane in IDLE_IN with nothing to do but to take beats (R73). -/
theorem decideIn_stays {s : State} {n : Spur} (hd : (s.lane n).yieldDue = false)
    (hw : s.outWork n = false ∨ (s.gather n).isPartial = true)
    (hh : (s.lane n).config.home = .inward ∨ (s.openIn n).isSome = true ∨
      (s.gather n).isPartial = true) : decideIn n s = s := by
  unfold decideIn
  by_cases hp : (s.gather n).isPartial = true
  · simp [hd, hp]
  · have hwork : s.outWork n = false := hw.resolve_right hp
    have hhome : ¬ ((s.lane n).config.home = .outward ∧ s.openIn n = none) := by
      rintro ⟨h1, h2⟩
      rcases hh with h | h | h
      · rw [h] at h1; cases h1
      · rw [h2] at h; cases h
      · exact hp h
    simp [hd, hp, hwork, hhome]

/-! ### The commands of a spur's lines and timers as acts -/

section commands
variable {s : State} {n : Spur}

@[simp] theorem State.at_setReady (s : State) (n : Spur) (col : Column) (js : List Job) (r : Bool)
    (d : Byte) : (s.at n col js).setReady n r d =
      s.at n { col with lane := { col.lane with ready := r, dataIn := d } } js := by
  rw [State.setReady, State.at_setLane, State.at_lane]

@[simp] theorem State.at_setAtn (s : State) (n : Spur) (col : Column) (js : List Job) (a : Bool) :
    (s.at n col js).setAtn n a = s.at n { col with lane := { col.lane with atn := a } } js := by
  rw [State.setAtn, State.at_setLane, State.at_lane]

@[simp] theorem State.at_setDataIn (s : State) (n : Spur) (col : Column) (js : List Job) (d : Byte) :
    (s.at n col js).setDataIn n d = s.at n { col with lane := { col.lane with dataIn := d } } js := by
  rw [State.setDataIn, State.at_setLane, State.at_lane]

theorem exec_snrdyChange (hs : Settled s) (r : Bool) (d : Byte) : exec (.snrdyChange n r d) s =
    s.act fun t => if (s.lane n).ready = r then t.setReady n r d
      else readyChanged n (t.setReady n r d) := if_neg (by simp [hs.live])

theorem exec_snatnChange (hs : Settled s) (a : Bool) : exec (.snatnChange n a) s =
    s.act fun t => if (s.lane n).atn = a then t.setAtn n a
      else (t.setAtn n a).push [.decide n] := if_neg (by simp [hs.live])

theorem exec_strobeWidthElapsed (hs : Settled s) (d : Byte) : exec (.strobeWidthElapsed n d) s =
    s.act fun t => strobeElapsed n (t.setDataIn n d) := if_neg (by simp [hs.live])

/-- A command's act on one spur's column, followed until only the arbiter's decision is left. -/
theorem State.act_at {k : Nat} {u : State} {col : Column} {f : State → State} (hs : Settled s)
    (h : Leads k (f (s.at n (s.column n) [.arbiter])) (u.at n col [.arbiter])) (hk : k ≤ 1000)
    (htx : u.tx = s.tx) (ha : u.agenda = s.agenda) : s.act f = .next (u.setColumn n col) := by
  refine State.act_ends (n := k) hs ?_ (by omega) (by exact htx ▸ hs.busy) (ha.trans hs.agenda)
  rw [← s.at_self n]
  exact h

end commands

/-- The rule at the front of the agenda is taken, on one spur's column. -/
theorem Leads.jobAt {k : Nat} {s t : State} {n : Spur} {col : Column} {j : Job} {rest : List Job}
    (h : Leads k (doJob j (s.at n col rest)) t) (hj : j.isLater = false := by rfl) :
    Leads (k + 1) (s.at n col (j :: rest)) t :=
  .step rfl hj h

/-- The rule at the front of the agenda is taken and leads to a state that is known. -/
theorem Leads.nextAt {k : Nat} {s t u : State} {n : Spur} {col : Column} {j : Job} {rest : List Job}
    (hd : doJob j (s.at n col rest) = u) (h : Leads k u t) (hj : j.isLater = false := by rfl) :
    Leads (k + 1) (s.at n col (j :: rest)) t :=
  .jobAt (hd ▸ h) hj

/-- Settles O51. -/
theorem attentionTurnsIn : Obligations.AttentionTurnsIn := by
  unfold Obligations.AttentionTurnsIn
  intro s n hs l
  refine ⟨fun a ho hi => ?_, fun hst hatn hhonor hopen howed hwork => ?_⟩
  · have hdecide : decideLane n ((s.at n { s.column n with lane := { l with atn := a } } [.arbiter])) =
        s.at n { s.column n with lane := { l with atn := a } } [.arbiter] :=
      decideLane_busy (by rw [State.at_lane]; exact ho) (by rw [State.at_lane]; exact hi)
    rw [exec_snatnChange hs]
    refine State.act_at (k := 1) (u := s) hs ?_ (by norm_num) rfl rfl
    rw [State.at_setAtn]
    split
    · exact .refl _ _
    · rw [State.at_push]
      exact .nextAt hdecide (.refl _ _)
  · rw [exec_snatnChange hs]
    refine State.act_at (k := 1) (u := s) hs ?_ (by norm_num) rfl rfl
    rw [if_neg (by simp [show (s.lane n).atn = false from hatn]), State.at_setAtn, State.at_push]
    refine .nextAt ?_ (.refl _ _)
    show decideLane n _ = _
    rw [decideLane_idleOut (by rw [State.at_lane]; exact hst), decideOut_attention ?_ ?_, turnIn_at,
      Lane.synced_idle (by exact .inl hwork)]
    · rfl
    · rw [State.at_attentionHeard]
      simpa using ⟨hhonor, hopen⟩
    · rw [State.at_lane]
      exact howed

/-! ### Taking beats (R74, R79, R87 to R91) -/

/-- The column once a PACED pulse has begun (R90, R106). -/
def Column.pulsed (col : Column) (p : Profile) : Column :=
  { col with
    gather := { col.gather with idleTimer := none }
    lane := { col.lane with
      state := .receiving, strobe := true, pulses := .running
      receiving := some { disc := .paced, ackLimit := p.ackLimit, phase := .pulse, byte := none,
                          tests := false, term := false, ackTimer := none } } }

/-- The column once an INTERLOCK offer stands (R87). -/
def Column.offering (col : Column) : Column :=
  { col with lane := { col.lane with strobe := true, offer := true } }

/-- The column as a lane begins to take beats under a profile (R74, R87 to R91). -/
def Column.begun (col : Column) (p : Profile) : Column :=
  match p.discipline with
  | .interlock => if col.lane.ready then col.offering else col
  | .gated => col
  | .paced => col.pulsed p
  | .toggle => { col with lane := { col.lane with reference := some col.lane.ready } }

/-- The column of a lane that takes beats under a profile (R79). -/
def Column.snapped (col : Column) (p : Profile) : Column :=
  { col with
    lane := { col.lane with inSnap := some p }
    gather := { col.gather with lossy := p.discipline.lossy } }

/-- The lane in IDLE_IN (R71, R73). -/
def Lane.idling (l : Lane) : Lane :=
  { l with state := .idleIn, workSeen := false, yieldTimer := none }

section taking
variable {s : State} {n : Spur} {col : Column} {js : List Job} {p : Profile}

theorem beginPulse_at (s : State) (n : Spur) (col : Column) (js : List Job) (p : Profile) :
    beginPulse n p (s.at n col js) = s.at n (col.pulsed p) js := by
  simp only [beginPulse, State.at_gather, State.at_setGather, State.at_lane, State.at_setLane]
  rfl

theorem beginTaking_at (s : State) (n : Spur) (col : Column) (js : List Job) (p : Profile) :
    beginTaking n p (s.at n col js) = s.at n (col.begun p) js := by
  cases hd : p.discipline with
  | interlock =>
    simp only [beginTaking, Column.begun, State.at_lane, hd, State.at_setLane]
    split <;> rfl
  | gated => simp only [beginTaking, Column.begun, hd]
  | paced => simp only [beginTaking, Column.begun, hd, beginPulse_at]
  | toggle => simp only [beginTaking, Column.begun, State.at_lane, hd, State.at_setLane]

theorem goOnTaking_interlock (h : p.discipline = .interlock) (hl : col.lane.offer = col.lane.ready) :
    goOnTaking n p (s.at n col js) = s.at n col js := by
  simp [goOnTaking, h, hl]

theorem goOnTaking_offers (h : p.discipline = .interlock) (hr : col.lane.ready = true)
    (ho : col.lane.offer = false) : goOnTaking n p (s.at n col js) = s.at n col.offering js := by
  simp [goOnTaking, h, hr, ho, Column.offering]

theorem goOnTaking_gated (h : p.discipline = .gated) :
    goOnTaking n p (s.at n col js) = s.at n col js := by
  simp only [goOnTaking, h]

theorem goOnTaking_paced (h : p.discipline = .paced) (hr : col.lane.pulses = .running) :
    goOnTaking n p (s.at n col js) = s.at n col js := by
  simp [goOnTaking, h, hr]

theorem goOnTaking_pulses (h : p.discipline = .paced) (hr : col.lane.pulses ≠ .running) :
    goOnTaking n p (s.at n col js) = s.at n (col.pulsed p) js := by
  simp [goOnTaking, h, hr, beginPulse_at]

theorem goOnTaking_toggle (h : p.discipline = .toggle)
    (hr : col.lane.reference = some col.lane.ready) :
    goOnTaking n p (s.at n col js) = s.at n col js := by
  simp [goOnTaking, h, hr]

theorem takeBeats_closed (h : s.openIn n = none) :
    takeBeats n (s.at n col js) = s.at n col js := by
  simp [takeBeats, h]

/-- The lane begins to take beats for an OPEN IN channel (R74). -/
theorem takeBeats_begins {c : Chan} (hst : col.lane.state = .idleIn) (hc : s.openIn n = some c)
    (hin : col.lane.inSnap = none) : takeBeats n (s.at n col js) =
      s.at n ((col.snapped (s.inProfile c)).begun (s.inProfile c)) js := by
  simp only [takeBeats, State.at_lane, State.at_openIn, hc, hin, State.at_inProfile,
    State.at_takeInSnap, beginTaking_at]
  exact if_pos hst

/-- The lane goes on taking beats (R74). -/
theorem takeBeats_goes {c : Chan} (hst : col.lane.state = .idleIn) (hc : s.openIn n = some c)
    (hin : col.lane.inSnap = some p) : takeBeats n (s.at n col js) =
      goOnTaking n p (s.at n col js) := by
  simp only [takeBeats, State.at_lane, hst, if_true, State.at_openIn, hc, hin]

theorem takeBeats_busy (hst : col.lane.state ≠ .idleIn) :
    takeBeats n (s.at n col js) = s.at n col js :=
  takeBeats_elsewhere (by rw [State.at_lane]; exact hst)

/-- A lane that enters IDLE_IN with nothing to decide goes on to take beats (R71, R73, R74). -/
theorem idleIn_takes (hst : col.lane.state = .receiving ∨ col.lane.state = .turnIn)
    (hr : col.lane.receiving = none) (hd : col.lane.yieldDue = false)
    (hw : col.queue.any s.serviceable = false)
    (hh : col.lane.config.home = .inward ∨ (s.openIn n).isSome = true ∨
      col.gather.isPartial = true) : idleIn n (s.at n col js) =
      s.at n { col with lane := col.lane.idling } (.takeBeats n :: js) := by
  have hidle : syncYield n ((enterIdle n .idleIn (s.at n col js)).push [.takeBeats n]) =
      s.at n { col with lane := col.lane.idling } (.takeBeats n :: js) := by
    rw [enterIdle_at, State.at_push, syncYield_at, Lane.synced_idle (by exact .inl hw), hw]
    rfl
  simp only [idleIn, State.at_lane, hr, and_true]
  rw [if_pos hst, hidle]
  refine decideIn_stays ?_ (.inl ?_) ?_
  · rw [State.at_lane]; exact hd
  · rw [State.at_outWork]; exact hw
  · rw [State.at_lane, State.at_openIn, State.at_gather]; exact hh

end taking

/-! ### Retaking a snapshot (R79) -/

/-- The column as its inbound snapshot is taken again under another discipline (R79). -/
def Column.restarting (col : Column) (p : Profile) : Column :=
  { (col.snapped p) with lane := { (col.snapped p).lane with
      strobe := false, offer := false, pulses := .none, reference := some col.lane.ready } }

section retake
variable {s : State} {n : Spur} {col : Column} {js : List Job} {old : Profile} {c : Chan}

theorem retake_none (h : col.lane.inSnap = none) : retake n (s.at n col js) = s.at n col js := by
  simp [retake, h]

theorem retake_closed (h : s.openIn n = none) : retake n (s.at n col js) = s.at n col js := by
  simp only [retake, State.at_lane, State.at_openIn, h]
  cases col.lane.inSnap <;> rfl

theorem retake_same (hin : col.lane.inSnap = some old) (hc : s.openIn n = some c)
    (hd : (s.inProfile c).discipline = old.discipline) :
    retake n (s.at n col js) = s.at n (col.snapped (s.inProfile c)) js := by
  simp [retake, hin, hc, hd, Column.snapped]

theorem retake_other (hin : col.lane.inSnap = some old) (hc : s.openIn n = some c)
    (hd : (s.inProfile c).discipline ≠ old.discipline) :
    retake n (s.at n col js) = s.at n (col.restarting (s.inProfile c)) js := by
  simp [retake, hin, hc, hd, Column.snapped, Column.restarting]

end retake

/-! ### Turnarounds (R68, R69) -/

theorem turnInDone_at {s : State} {n : Spur} {col : Column} {js : List Job}
    (h : col.lane.state = .turnIn) : turnInDone n (s.at n col js) =
      s.at n { col with lane := { col.lane with guardTimer := none } } (.idleIn n :: js) := by
  simp [turnInDone, h]

theorem turnOutDone_at {s : State} {n : Spur} {col : Column} {js : List Job}
    (h : col.lane.state = .turnOut) : turnOutDone n (s.at n col js) =
      s.at n { col with lane := { col.lane with
        guardTimer := none, drive := some 0, state := .idleOut
        workSeen := col.queue.any s.serviceable } } (.decide n :: js) := by
  simp [turnOutDone, h, enterIdle_at]

/-- The turnaround to IDLE_IN, followed up to the taking of beats (R68, R73). -/
theorem exec_turnInComplete {s : State} {n : Spur} {col : Column} (hs : Settled s)
    (hst : (s.lane n).state = .turnIn) (hr : (s.lane n).receiving = none)
    (hh : (s.lane n).config.home = .inward) (hd : (s.lane n).yieldDue = false)
    (hw : s.outWork n = false)
    (h : takeBeats n (s.at n { s.column n with
      lane := { (s.lane n) with
        state := .idleIn, guardTimer := none, yieldTimer := none, workSeen := false } } [.arbiter]) =
      s.at n col [.arbiter]) : exec (.turnInComplete n) s = .next (s.setColumn n col) := by
  show execTurnInComplete n s = _
  refine State.act_at (k := 2) hs ?_ (by norm_num) rfl rfl
  rw [turnInDone_at (by exact hst)]
  exact .nextAt (idleIn_takes (by exact .inr hst) (by exact hr) (by exact hd) (by exact hw)
    (by exact .inl hh)) (.nextAt h (.refl 0 _))

/-! ### SET SPUR (R93, R94) -/

theorem readSpurConfig_bytes {cfg : SpurConfig} (hg : cfg.guard ≠ 0) (hy : cfg.yield ≠ 0) :
    readSpurConfig (if cfg.enable then 1 else 0) cfg.home.code cfg.guard cfg.attention.code
      cfg.yield = some cfg := by
  obtain ⟨enable, home, guard, attention, yield⟩ := cfg
  have hen : twoWay (if enable then 1 else 0) false true = some enable := by cases enable <;> rfl
  have hhome : twoWay home.code Facing.outward .inward = some home := by cases home <;> rfl
  have hatt : twoWay attention.code Attention.honor .ignore = some attention := by
    cases attention <;> rfl
  simp only [readSpurConfig, hen, hhome, hatt, if_neg (not_or.mpr ⟨hg, hy⟩)]

section setSpur
variable {s : State} {n : Spur} {cfg : SpurConfig} (hg : cfg.guard ≠ 0) (hy : cfg.yield ≠ 0)
include hg hy

theorem setSpur_refused (he : cfg.enable = false) (hu : s.spurUsed n = true) :
    setSpur (BitVec.ofNat 8 n.val :: cfg.bytes) s = s.refuse .state := by
  simp only [setSpur, SpurConfig.bytes, spurOf_ofNat_val, readSpurConfig_bytes hg hy]
  exact if_pos ⟨he, hu⟩

theorem setSpur_enables (he : (s.lane n).config.enable = false) (hc : cfg.enable = true) :
    setSpur (BitVec.ofNat 8 n.val :: cfg.bytes) s =
      (enableSpur n (s.setLane n { s.lane n with config := cfg })).answer
        (s.lane n).config.bytes := by
  have hused : ¬ (cfg.enable = false ∧ s.spurUsed n = true) := by simp [hc]
  simp only [setSpur, SpurConfig.bytes, spurOf_ofNat_val, readSpurConfig_bytes hg hy, if_neg hused]
  simp only [he, hc]

variable (hu : cfg.enable = true ∨ s.spurUsed n = false)
include hu

theorem setSpur_keeps (he : (s.lane n).config.enable = cfg.enable) :
    setSpur (BitVec.ofNat 8 n.val :: cfg.bytes) s =
      ((s.setLane n { s.lane n with config := cfg }).push [.decide n]).answer
        (s.lane n).config.bytes := by
  have hused : ¬ (cfg.enable = false ∧ s.spurUsed n = true) := by
    rcases hu with h | h <;> simp [h]
  simp only [setSpur, SpurConfig.bytes, spurOf_ofNat_val, readSpurConfig_bytes hg hy, if_neg hused, he]
  cases cfg.enable <;> rfl

theorem setSpur_disables (he : (s.lane n).config.enable = true) (hc : cfg.enable = false) :
    setSpur (BitVec.ofNat 8 n.val :: cfg.bytes) s =
      (disableSpur n (s.setLane n { s.lane n with config := cfg })).answer
        (s.lane n).config.bytes := by
  have hused : ¬ (cfg.enable = false ∧ s.spurUsed n = true) := by
    rcases hu with h | h <;> simp_all
  simp only [setSpur, SpurConfig.bytes, spurOf_ofNat_val, readSpurConfig_bytes hg hy, if_neg hused]
  simp only [he, hc]

end setSpur

theorem enableSpur_outward {s : State} {n : Spur} (h : (s.lane n).config.home = .outward) :
    enableSpur n s = turnOut n s := by
  simp only [enableSpur, h]

theorem enableSpur_inward {s : State} {n : Spur} (h : (s.lane n).config.home = .inward) :
    enableSpur n s = turnIn n s := by
  simp only [enableSpur, h]

/-- Settles O37. -/
theorem setSpurConfigures : Obligations.SetSpurConfigures := by
  unfold Obligations.SetSpurConfigures
  intro s seq n cfg hs he hg hy l request done
  have hfit : paramsFit (BitVec.ofNat 8 n.val :: cfg.bytes) = true := rfl
  let e : State := s.executing 8 seq (BitVec.ofNat 8 n.val :: cfg.bytes)
  have hends : ∀ (k : Nat) (u : State) (l' : Lane),
      executeRequest 8 (BitVec.ofNat 8 n.val :: cfg.bytes) e = u.answer l.config.bytes →
      Leads k (u.doing (u.agenda ++ [.respond .ok l.config.bytes, .arbiter]))
        (e.at n { s.column n with lane := l' } [.respond .ok l.config.bytes, .arbiter]) →
      k ≤ 1000 → exec request s = done l' := by
    intro k u l' hx hl hk
    exact request_ends (ps := BitVec.ofNat 8 n.val :: cfg.bytes) (rs := []) (t := s.setLane n l') hs he
      hfit hx hl (by omega) rfl rfl rfl hs.alone he.descriptor he.requestCells he.responseCells
  have hset : e.setLane n { l with config := cfg } =
      e.at n { s.column n with lane := { l with config := cfg } } [] := rfl
  refine ⟨fun hen hu ho hi => ?_, fun hen hc hq => ?_, fun hen hc hu => ?_, fun hc hu => ?_⟩
  · refine hends 1 _ _ (setSpur_keeps (s := e) hg hy hu hen) ?_ (by norm_num)
    refine .nextAt (s := e) (col := { s.column n with lane := { l with config := cfg } })
      (decideLane_busy ?_ ?_) (.refl 0 _)
    · rw [State.at_lane]; exact ho
    · rw [State.at_lane]; exact hi
  · have hx := setSpur_enables (s := e) hg hy hen hc
    have hwork : (s.column n).queue.any s.serviceable = false := by
      rw [show (s.column n).queue = [] from hq]
      rfl
    refine ⟨fun hh => hends 0 _ _ hx (.of_eq ?_) (by norm_num),
      fun hh => hends 0 _ _ hx (.of_eq ?_) (by norm_num)⟩
    · rw [show e.lane n = l from rfl, enableSpur_outward (by rw [State.lane_setLane]; exact hh), hset,
        turnOut_at]
      rfl
    · rw [show e.lane n = l from rfl, enableSpur_inward (by rw [State.lane_setLane]; exact hh), hset,
        turnIn_at, Lane.synced_idle (by exact .inl hwork)]
      rfl
  · refine hends 0 _ _ (setSpur_disables (s := e) hg hy (.inr hu) hen hc) (.of_eq ?_) (by norm_num)
    rw [show e.lane n = l from rfl, disableSpur, State.lane_setLane, hset, State.at_setLane]
    rfl
  · exact request_refuses (ps := BitVec.ofNat 8 n.val :: cfg.bytes) hs he hfit
      (setSpur_refused (s := e) hg hy hc hu)

/-! ### SET PROFILE (R77, R79) -/

theorem ofNat_wordOf (hi lo : Byte) : BitVec.ofNat 16 (wordOf hi lo) = hi ++ lo := by
  apply BitVec.eq_of_toNat_eq
  have hlo : lo.toNat < 2 ^ 8 := lo.isLt
  have hhi : hi.toNat < 2 ^ 8 := hi.isLt
  have happend : (hi ++ lo).toNat = hi.toNat <<< 8 + lo.toNat := by
    rw [BitVec.toNat_append, Nat.shiftLeft_add_eq_or_of_lt hlo]
  rw [happend, Nat.shiftLeft_eq, BitVec.toNat_ofNat, wordOf]
  omega

theorem wordOf_eq_zero_iff (hi lo : Byte) : wordOf hi lo = 0 ↔ hi = 0 ∧ lo = 0 := by
  rw [byte_eq_zero_iff, byte_eq_zero_iff, wordOf]
  omega

theorem disciplineOf_none {b : Byte} (h : 4 ≤ b.toNat) : disciplineOf b = none := by
  have hne : ∀ k : Byte, k.toNat < 4 → b ≠ k := by
    rintro k hk rfl
    omega
  simp only [disciplineOf, if_neg (hne 0 (by decide)), if_neg (hne 1 (by decide)),
    if_neg (hne 2 (by decide)), if_neg (hne 3 (by decide))]

theorem readProfileFields_ok (d : Discipline) {setup strobe pHi pLo aHi aLo : Byte} (hs : strobe ≠ 0)
    (hp : ¬ (pHi = 0 ∧ pLo = 0)) : readProfileFields d.code setup strobe pHi pLo aHi aLo =
      some { discipline := d, setup := setup, strobe := strobe, pacing := pHi ++ pLo
             ackLimit := aHi ++ aLo } := by
  have hd : disciplineOf d.code = some d := by cases d <;> rfl
  have hin : ¬ (strobe = 0 ∨ wordOf pHi pLo = 0) := by
    rw [wordOf_eq_zero_iff]
    exact not_or.mpr ⟨hs, hp⟩
  simp only [readProfileFields, hd, if_neg hin, ofNat_wordOf]

theorem readProfileFields_range {disc setup strobe pHi pLo aHi aLo : Byte}
    (h : 4 ≤ disc.toNat ∨ strobe = 0 ∨ pHi = 0 ∧ pLo = 0) :
    readProfileFields disc setup strobe pHi pLo aHi aLo = none := by
  rw [← wordOf_eq_zero_iff] at h
  rcases h with h | h
  · simp only [readProfileFields, disciplineOf_none h]
  · unfold readProfileFields
    split
    · rfl
    · exact if_pos h

/-- A lane that takes a rewritten profile's new values at once (R79). -/
def State.retakes (s : State) (k : ProfileNo) (n : Spur) : Bool :=
  (s.lane n).inSnap.isSome && !(s.gather n).isPartial && (s.lane n).receiving = none &&
  (match s.openIn n with
   | some c => (match s.link c with | some l => decide (l.profile = k) | none => false)
   | none => false)

theorem State.retakers_eq (s : State) (k : ProfileNo) :
    s.retakers k = (List.finRange 4).filter (s.retakes k) := rfl

theorem Gather.isPartial_iff (g : Gather) : g.isPartial = true ↔ g.state ≠ .empty := by
  unfold Gather.isPartial
  split <;> simp_all

theorem Gather.isPartial_false {g : Gather} (h : g.state = .empty) : g.isPartial = false := by
  simp only [Gather.isPartial, h]

theorem State.retakes_false {s : State} {k : ProfileNo} {n : Spur}
    (h : (s.lane n).inSnap = none ∨ (s.gather n).state ≠ .empty ∨ (s.lane n).receiving ≠ none ∨
      ∀ c l, s.openIn n = some c → s.link c = some l → l.profile ≠ k) : s.retakes k n = false := by
  rcases h with h | h | h | h
  · simp [State.retakes, h]
  · simp [State.retakes, (Gather.isPartial_iff _).mpr h]
  · simp [State.retakes, h]
  · cases hc : s.openIn n with
    | none => simp [State.retakes, hc]
    | some c =>
      cases hl : s.link c with
      | none => simp [State.retakes, hc, hl]
      | some l => simp [State.retakes, hc, hl, h c l hc hl]

theorem State.retakes_true {s : State} {n : Spur} {old : Profile} {c : Chan} {l : Link}
    (hin : (s.lane n).inSnap = some old) (hg : (s.gather n).state = .empty)
    (hr : (s.lane n).receiving = none) (hc : s.openIn n = some c) (hl : s.link c = some l) :
    s.retakes l.profile n = true := by
  simp [State.retakes, hin, Gather.isPartial_false hg, hr, hc, hl]

theorem State.retakers_none {s : State} {k : ProfileNo} (h : ∀ n, s.retakes k n = false) :
    s.retakers k = [] := by
  rw [State.retakers_eq, List.filter_eq_nil_iff]
  intro n _
  rw [h]
  exact Bool.false_ne_true

theorem State.retakers_one {s : State} {k : ProfileNo} {n : Spur} (h : s.retakes k n = true)
    (hne : ∀ m, m ≠ n → s.retakes k m = false) : s.retakers k = [n] := by
  have hfun : s.retakes k = fun m => decide (m = n) := by
    funext m
    by_cases hm : m = n
    · simp [hm, h]
    · simp [hm, hne m hm]
  rw [State.retakers_eq, hfun]
  match n with
  | 0 | 1 | 2 | 3 => rfl

/-- SET PROFILE with fields in range (R77). -/
theorem setProfile_ok (s : State) (k : ProfileNo) {disc setup strobe pHi pLo aHi aLo : Byte}
    {p : Profile} (hp : readProfileFields disc setup strobe pHi pLo aHi aLo = some p) :
    setProfile [BitVec.ofNat 8 k.val, disc, setup, strobe, pHi, pLo, aHi, aLo] s =
      (State.push { s with profiles := s.profiles.set k.val p }
        ((s.retakers k).flatMap fun n => [.retake n, .takeBeats n])).answer [] := by
  simp only [setProfile, profileOf_ofNat_val, hp]

theorem setProfile_range (s : State) {num disc setup strobe pHi pLo aHi aLo : Byte}
    (h : 8 ≤ num.toNat ∨ 4 ≤ disc.toNat ∨ strobe = 0 ∨ pHi = 0 ∧ pLo = 0) :
    setProfile [num, disc, setup, strobe, pHi, pLo, aHi, aLo] s = s.refuse .range := by
  rcases h with h | h
  · simp only [setProfile, profileOf_eq_none (show 7 < num.toNat from h)]
  · simp only [setProfile, readProfileFields_range h]
    cases profileOf num <;> rfl

/-- Settles O35. -/
theorem setProfileReplaces : Obligations.SetProfileReplaces := by
  unfold Obligations.SetProfileReplaces
  intro s seq num setup strobe pHi pLo aHi aLo d hs he params code p
  have hcode : code = d.code := by cases d <;> rfl
  refine ⟨fun k hnum hstrobe hpacing => ?_, fun disc hr => ?_⟩
  · subst hnum
    intro u becomes keeps
    have hread : readProfileFields code setup strobe pHi pLo aHi aLo = some p :=
      hcode ▸ readProfileFields_ok d hstrobe hpacing
    let e : State := u.executing 6 seq (params code)
    have hends : ∀ (m : Nat) (l : List Spur) (v : State), s.retakers k = l →
        Leads m (e.doing ((l.flatMap fun n => [.retake n, .takeBeats n]) ++
          [.respond .ok [], .arbiter]))
          ((v.executing 6 seq (params code)).doing [.respond .ok [], .arbiter]) → m ≤ 1000 →
        v.tx = s.tx → v.pool = s.pool → v.engine = s.engine → v.agenda = s.agenda → becomes v := by
      intro m l v hret hl hm htx hp hen ha
      refine request_ends (ps := params code) (rs := []) (t := v) hs he rfl
        (setProfile_ok (s.executing 6 seq (params code)) k hread) ?_ (show m ≤ 1000000 by omega) htx
        ha hen (hp ▸ hs.alone) (hp ▸ he.descriptor) (hp ▸ he.requestCells) (hp ▸ he.responseCells)
      rw [show (s.executing 6 seq (params code)).retakers k = s.retakers k from rfl, hret]
      simp only [State.push, List.append_assoc]
      exact hl
    have hkeeps : ∀ n, keeps n → s.retakes k n = false := fun n h => State.retakes_false h
    refine ⟨fun hall => ?_, fun n old c l hrest hin hst hg hr hc hl hk => ?_⟩
    · exact hends 0 [] u (State.retakers_none fun n => hkeeps n (hall n)) (.refl _ _) (by norm_num)
        rfl rfl rfl rfl
    · intro ln taken fresh
      subst hk
      have hprof : e.inProfile c = p := by
        simp only [State.inProfile, show e.link c = some l from hl]
        exact Vector.getElem_set_self _
      have hone := State.retakers_one (State.retakes_true hin hg hr hc hl)
        fun m hm => hkeeps m (hrest m hm)
      have hcolumn : ∀ (col : Column),
          (retake n (e.at n (s.column n) [.takeBeats n, .respond .ok [], .arbiter]) =
            e.at n col [.takeBeats n, .respond .ok [], .arbiter]) → ∀ col',
          goOnTaking n p (e.at n col [.respond .ok [], .arbiter]) =
            e.at n col' [.respond .ok [], .arbiter] → col.lane.state = .idleIn →
            col.lane.inSnap = some p → becomes (u.setColumn n col') := by
        intro col hret col' hgo hst' hin'
        refine hends 2 [n] (u.setColumn n col') hone ?_ (by norm_num) rfl rfl rfl rfl
        show Leads 2 (e.doing [.retake n, .takeBeats n, .respond .ok [], .arbiter]) _
        rw [← e.at_self n]
        refine .nextAt (u := e.at n col [.takeBeats n, .respond .ok [], .arbiter]) hret
          (.nextAt (u := e.at n col' [.respond .ok [], .arbiter]) ?_ (.of_eq rfl))
        exact (takeBeats_goes (s := e) hst' hc hin').trans hgo
      refine ⟨fun hd => ?_, fun hd => ?_⟩
      · have hret : retake n (e.at n (s.column n) [.takeBeats n, .respond .ok [], .arbiter]) =
            e.at n ((s.column n).restarting p) [.takeBeats n, .respond .ok [], .arbiter] := by
          rw [← hprof]
          exact retake_other (by exact hin) (by exact hc) (by rw [hprof]; exact hd)
        have hbecomes := fun col' hgo => hcolumn _ hret col' hgo hst rfl
        refine ⟨fun hk hready => ?_, fun hk hready => ?_, fun hk => ?_, fun hk => ?_, fun hk => ?_⟩
        all_goals subst hk
        · exact hbecomes _ (goOnTaking_offers rfl hready rfl)
        · exact hbecomes _ (goOnTaking_interlock rfl hready.symm)
        · exact hbecomes _ (goOnTaking_gated rfl)
        · exact hbecomes _ (goOnTaking_toggle rfl rfl)
        · exact hbecomes _ (goOnTaking_pulses rfl (by simp [Column.restarting]))
      · have hret : retake n (e.at n (s.column n) [.takeBeats n, .respond .ok [], .arbiter]) =
            e.at n ((s.column n).snapped p) [.takeBeats n, .respond .ok [], .arbiter] := by
          rw [← hprof]
          exact retake_same (by exact hin) (by exact hc) (by rw [hprof]; exact hd)
        have hbecomes := fun col' hgo => hcolumn _ hret col' hgo hst rfl
        refine ⟨fun hk hoffer => ?_, fun hk => ?_, fun hk hrun => ?_, fun hk href => ?_⟩
        all_goals subst hk
        · exact hbecomes _ (goOnTaking_interlock rfl hoffer)
        · exact hbecomes _ (goOnTaking_gated rfl)
        · exact hbecomes _ (goOnTaking_paced rfl hrun)
        · exact hbecomes _ (goOnTaking_toggle rfl href)
  · exact request_refuses (ps := params disc) hs he rfl (setProfile_range _ hr)

/-! ### OPEN CHANNEL (R25 to R27) -/

theorem readDirection_outward {limit : Byte} (h1 : 1 ≤ limit.toNat) (h2 : limit.toNat ≤ 15)
    (count mode term gap cls : Byte) :
    readDirection 0 limit count mode term gap cls = some (.outbound limit.toNat 0) := by
  have hin : 1 ≤ limit.toNat ∧ limit.toNat ≤ 15 := ⟨h1, h2⟩
  simp only [readDirection, if_true, if_pos hin]

theorem readDirection_inward {count mode : Byte} (h1 : 1 ≤ count.toNat) (h2 : count.toNat ≤ 240)
    (hm : mode.toNat ≤ 2) (limit term gap : Byte) (cls : DataClass) :
    readDirection 1 limit count mode term gap cls.code = some (.inbound
      { gatherCount := count.toNat
        terminator := if mode = 0 then none else some { byte := term, keep := decide (mode = 2) }
        idleGap := if gap = 0 then none else some gap
        cls := cls }) := by
  have hcls : twoWay cls.code DataClass.normal .express = some cls := by cases cls <;> rfl
  have hdir : ¬ ((1 : Byte) = 0) := by decide
  have hin : 1 ≤ count.toNat ∧ count.toNat ≤ 240 ∧ mode.toNat ≤ 2 := ⟨h1, h2, hm⟩
  simp only [readDirection, if_neg hdir, if_true, if_pos hin, hcls]

theorem State.openRefusal_state {s : State} {c : Chan} {n : Spur} (d : Direction)
    (h : s.link c ≠ none ∨ (s.lane n).config.enable = false) :
    s.openRefusal c d n = some .state := by
  have hcond : ((s.link c).isSome || !(s.lane n).config.enable) = true := by
    rcases h with h | h
    · rw [Option.isSome_iff_ne_none.mpr h, Bool.true_or]
    · rw [h, Bool.not_false, Bool.or_true]
  exact if_pos hcond

section openRefusal
variable {s : State} {c : Chan} {n : Spur} (hc : s.link c = none)
  (he : (s.lane n).config.enable = true)
include hc he

theorem State.openRefusal_out {limit k : Nat} (h : limit + s.creditSum n ≤ 30) :
    s.openRefusal c (.outbound limit k) n = none := by
  simp [State.openRefusal, hc, he, Config.creditQuota, Nat.not_lt.mpr h]

theorem State.openRefusal_quota {limit k : Nat} (h : 30 < limit + s.creditSum n) :
    s.openRefusal c (.outbound limit k) n = some .quota := by
  simp [State.openRefusal, hc, he, Config.creditQuota, h]

theorem State.openRefusal_in {i : InSettings} (h : s.inChan n = none) :
    s.openRefusal c (.inbound i) n = none := by
  simp [State.openRefusal, hc, he, h]

theorem State.openRefusal_conflict {i : InSettings} (h : s.inChan n ≠ none) :
    s.openRefusal c (.inbound i) n = some .conflict := by
  simp [State.openRefusal, hc, he, Option.isSome_iff_ne_none, h]

end openRefusal

section openChannel
variable {s : State} {c : Chan} {n : Spur} {k : ProfileNo} {t : Option Handle} {d : Direction}
  {dir limit count mode term gap cls : Byte}
  (hd : readDirection dir limit count mode term gap cls = some d)
include hd

theorem openChannel_refused {st : Status} (hr : s.openRefusal c d n = some st) :
    openChannel [byteOf (chanNumber c), dir, byteOf n.val, byteOf k.val, limit, count, mode, term, gap,
      cls, teeByte t] s = s.refuse st := by
  simp only [openChannel, chanOf_byteOf_chanNumber, hd, show spurOf (byteOf n.val) = some n from
    spurOf_ofNat_val n, show profileOf (byteOf k.val) = some k from profileOf_ofNat_val k,
    readTee_teeByte, hr]

theorem openChannel_teeRefused {st : Status} (hr : s.openRefusal c d n = none)
    (ht : t.bind s.teeRefusal = some st) :
    openChannel [byteOf (chanNumber c), dir, byteOf n.val, byteOf k.val, limit, count, mode, term, gap,
      cls, teeByte t] s = s.refuse st := by
  simp only [openChannel, chanOf_byteOf_chanNumber, hd, show spurOf (byteOf n.val) = some n from
    spurOf_ofNat_val n, show profileOf (byteOf k.val) = some k from profileOf_ofNat_val k,
    readTee_teeByte, hr, ht]

theorem openChannel_opens (hr : s.openRefusal c d n = none) (ht : t.bind s.teeRefusal = none) :
    openChannel [byteOf (chanNumber c), dir, byteOf n.val, byteOf k.val, limit, count, mode, term, gap,
      cls, teeByte t] s =
      (openAs c { dir := d, spur := n, profile := k, tee := t, phase := .opened } s).answer [] := by
  simp only [openChannel, chanOf_byteOf_chanNumber, hd, show spurOf (byteOf n.val) = some n from
    spurOf_ofNat_val n, show profileOf (byteOf k.val) = some k from profileOf_ofNat_val k,
    readTee_teeByte, hr, ht]

end openChannel

theorem openAs_noTee {c : Chan} {l : Link} (h : l.tee = none) (s : State) :
    openAs c l s = (s.setLink c (some l)).push [.decide l.spur, .takeBeats l.spur] := by
  simp only [openAs, h]

theorem openAs_tee {c : Chan} {l : Link} {h : Handle} {g : Segment} {s : State} (ht : l.tee = some h)
    (hg : s.segment h = some g) : openAs c l s =
      ((s.setLink c (some l)).setSegment h (some { g with state := .capturing })).push
        [.decide l.spur, .takeBeats l.spur] := by
  simp only [openAs, ht]
  rw [State.setSegState_of (by exact hg)]

/-- Where the lane is not idle, an opened channel has nothing decided or taken for it (R71, R74). -/
theorem opened_leads {s : State} {n : Spur} (ho : (s.lane n).state ≠ .idleOut)
    (hi : (s.lane n).state ≠ .idleIn) (js : List Job) :
    Leads 2 (s.doing (.decide n :: .takeBeats n :: js)) (s.doing js) :=
  .next (decideLane_busy (by exact ho) (by exact hi))
    (.next (takeBeats_elsewhere (by exact hi)) (.refl 0 _))

/-- Settles O38. -/
theorem openChannelOpens : Obligations.OpenChannelOpens := by
  unfold Obligations.OpenChannelOpens
  intro s seq c n k t hs he head tee outward inward refused opens
  have htee : tee = teeByte t := by cases t <;> rfl
  have hopens : ∀ {d : Direction} {dir limit count mode term gap cls : Byte},
      readDirection dir limit count mode term gap cls = some d → s.openRefusal c d n = none →
      (s.lane n).state ≠ .idleOut → (s.lane n).state ≠ .idleIn →
      opens (.openChannel seq (head dir ++ [limit, count, mode, term, gap, cls, tee])) d := by
    intro d dir limit count mode term gap cls hd hr ho hi
    rw [htee]
    let ps := head dir ++ [limit, count, mode, term, gap, cls, teeByte t]
    have hbind : ∀ (v w : State), openChannel ps (s.executing 10 seq ps) = w.answer [] →
        w = (v.executing 10 seq ps).doing [.decide n, .takeBeats n] → (v.lane n) = s.lane n →
        v.tx = s.tx → v.pool = s.pool → v.engine = s.engine → v.agenda = s.agenda →
        exec (.openChannel seq ps) s = .next (v.answered 10 seq .ok []) := by
      intro v w hx hw hlane htx hp hen ha
      refine request_ends (ps := ps) (rs := []) (n := 2) (t := v) hs he rfl hx ?_ (by norm_num) htx ha
        hen (hp ▸ hs.alone) (hp ▸ he.descriptor) (hp ▸ he.requestCells) (hp ▸ he.responseCells)
      rw [hw]
      refine opened_leads (s := v.executing 10 seq ps) ?_ ?_ _
      · exact fun e => ho (hlane ▸ e)
      · exact fun e => hi (hlane ▸ e)
    have htees : ∀ st, t.bind s.teeRefusal = some st →
        exec (.openChannel seq ps) s = .next (s.answered 10 seq st []) := fun st ht =>
      request_refuses (ps := ps) hs he rfl
        (openChannel_teeRefused (s := s.executing 10 seq ps) hd hr ht)
    refine ⟨fun ht => ?_, fun h g ht hg => ⟨fun hready => ?_, fun hready => ?_⟩, fun h ht hg => ?_⟩
    · refine hbind _ _ (openChannel_opens (s := s.executing 10 seq ps) hd hr (by rw [ht]; rfl)) ?_ rfl
        rfl rfl rfl rfl
      rw [openAs_noTee (by exact ht)]
      rfl
    · refine hbind _ _ (openChannel_opens (s := s.executing 10 seq ps) hd hr ?_) ?_ rfl rfl rfl rfl rfl
      · rw [ht]
        exact State.teeRefusal_ready hg hready
      · rw [openAs_tee (by exact ht) (by exact hg)]
        rfl
    · exact htees _ (by rw [ht]; exact State.teeRefusal_busy hg hready)
    · exact htees _ (by rw [ht]; exact State.teeRefusal_absent hg)
  have hrefused : ∀ {d : Direction} {dir limit count mode term gap cls : Byte} {st : Status},
      readDirection dir limit count mode term gap cls = some d → s.openRefusal c d n = some st →
      refused (.openChannel seq (head dir ++ [limit, count, mode, term, gap, cls, tee])) st := by
    intro d dir limit count mode term gap cls st hd hr
    rw [htee]
    exact request_refuses (ps := head dir ++ [limit, count, mode, term, gap, cls, teeByte t]) hs he rfl
      (openChannel_refused (s := s.executing 10 seq _) hd hr)
  refine ⟨fun limit count mode term gap cls h1 h15 => ?_,
    fun limit count mode term gap cls h1 h240 hm => ?_⟩
  · have hd := readDirection_outward h1 h15 count mode term gap cls
    exact ⟨fun hc hen => ⟨fun hsum => hopens hd (State.openRefusal_out hc hen hsum),
      fun hsum => hrefused hd (State.openRefusal_quota hc hen hsum)⟩,
      fun hbad => hrefused hd (State.openRefusal_state _ hbad)⟩
  · have hd := readDirection_inward h1 h240 hm limit term gap cls
    exact ⟨fun hc hen => ⟨fun hin => hopens hd (State.openRefusal_in hc hen hin),
      fun hin => hrefused hd (State.openRefusal_conflict hc hen hin)⟩,
      fun hbad => hrefused hd (State.openRefusal_state _ hbad)⟩

end Sys2Proof.Machine
end

section
/-! The closure of a gather (05, sections 5.3 to 5.5): the capture through the tee, the data queue the bytes
join, and the lane after it; and the timers of a spur that faces inward. -/

namespace Sys2Proof.Machine

-- the proofs are elaborated one after another: all at once they ask for too many threads
set_option Elab.async false

/-! ### What the Channel Map says of a spur -/

/-- A link without what changes while a channel stands as it is: its tee, its outstanding credit and the
counts of its drain. -/
def Link.shape (l : Link) : Link :=
  { l with
    tee := none
    dir := match l.dir with | .outbound limit _ => .outbound limit 0 | .inbound k => .inbound k
    phase := match l.phase with | .draining m _ _ => .draining m 0 0 | p => p }

theorem Link.shape_tee (l : Link) (t : Option Handle) : { l with tee := t }.shape = l.shape := rfl

theorem Link.shape_isIn (l : Link) : l.shape.isIn = l.isIn := by
  unfold Link.isIn Link.shape
  cases l.dir <;> rfl

theorem Link.shape_isOpen (l : Link) : l.shape.isOpen = l.isOpen := by
  unfold Link.isOpen Link.shape
  cases l.phase <;> rfl

theorem Link.shape_isDraining (l : Link) : l.shape.isDraining = l.isDraining := by
  unfold Link.isDraining Link.shape
  cases l.phase <;> rfl

section shape
variable {l l' : Link} (h : l'.shape = l.shape)
include h

theorem Link.shape_eq_spur : l'.spur = l.spur := show l'.shape.spur = l.shape.spur by rw [h]
theorem Link.shape_eq_profile : l'.profile = l.profile :=
  show l'.shape.profile = l.shape.profile by rw [h]
theorem Link.shape_eq_isIn : l'.isIn = l.isIn := by rw [← Link.shape_isIn, h, Link.shape_isIn]
theorem Link.shape_eq_isOpen : l'.isOpen = l.isOpen := by
  rw [← Link.shape_isOpen, h, Link.shape_isOpen]
theorem Link.shape_eq_isDraining : l'.isDraining = l.isDraining := by
  rw [← Link.shape_isDraining, h, Link.shape_isDraining]

end shape

/-- Every channel stands in t as it does in s, but for its tee, its outstanding credit and its counts. -/
def State.SameMap (s t : State) : Prop :=
  (∀ c, (t.link c).map Link.shape = (s.link c).map Link.shape) ∧ t.profiles = s.profiles

theorem State.SameMap.refl (s : State) : s.SameMap s := ⟨fun _ => rfl, rfl⟩

theorem State.SameMap.trans {s t u : State} (h : s.SameMap t) (h' : t.SameMap u) : s.SameMap u :=
  ⟨fun c => (h'.1 c).trans (h.1 c), h'.2.trans h.2⟩

theorem State.SameMap.setLink {s t : State} {c : Chan} {l l' : Link} (h : s.SameMap t)
    (hl : s.link c = some l) (hs : l'.shape = l.shape) : s.SameMap (t.setLink c (some l')) := by
  refine ⟨fun d => ?_, h.2⟩
  by_cases hd : d = c
  · subst hd
    simp [hl, hs]
  · rw [State.link_setLink_ne _ hd, h.1 d]

theorem State.SameMap.of_links {s t : State} (hl : ∀ c, t.link c = s.link c)
    (hp : t.profiles = s.profiles) : s.SameMap t := ⟨fun c => by rw [hl c], hp⟩

section sameMap
variable {s t : State} (h : s.SameMap t)
include h

theorem State.SameMap.link {c : Chan} {l : Link} (hl : s.link c = some l) :
    ∃ l', t.link c = some l' ∧ l'.shape = l.shape := by
  have hc := h.1 c
  rw [hl, Option.map_some, Option.map_eq_some_iff] at hc
  exact hc

theorem State.SameMap.link_none {c : Chan} (hl : s.link c = none) : t.link c = none := by
  have hc := h.1 c
  rw [hl, Option.map_none, Option.map_eq_none_iff] at hc
  exact hc

theorem State.SameMap.inChan (n : Spur) : t.inChan n = s.inChan n := by
  unfold State.inChan
  congr 1
  funext c
  cases hl : s.link c with
  | none => simp only [h.link_none hl]
  | some l =>
    obtain ⟨l', hl', hs⟩ := h.link hl
    simp only [hl', Link.shape_eq_spur hs, Link.shape_eq_isIn hs]

theorem State.SameMap.openIn (n : Spur) : t.openIn n = s.openIn n := by
  unfold State.openIn
  rw [h.inChan n]
  cases s.inChan n with
  | none => rfl
  | some c =>
    cases hl : s.link c with
    | none => simp only [h.link_none hl, hl]
    | some l =>
      obtain ⟨l', hl', hs⟩ := h.link hl
      simp only [hl', hl, Link.shape_eq_isOpen hs]

theorem State.SameMap.serviceable : t.serviceable = s.serviceable := by
  funext e
  unfold State.serviceable
  cases hl : s.link e.chan with
  | none => simp only [h.link_none hl]
  | some l =>
    obtain ⟨l', hl', hs⟩ := h.link hl
    simp only [hl', Link.shape_eq_isOpen hs, Link.shape_eq_isDraining hs]

theorem State.SameMap.inProfile (c : Chan) : t.inProfile c = s.inProfile c := by
  unfold State.inProfile
  cases hl : s.link c with
  | none => simp only [h.link_none hl]
  | some l =>
    obtain ⟨l', hl', hs⟩ := h.link hl
    simp only [hl', Link.shape_eq_profile hs, State.profile, h.2]

end sameMap

theorem State.openIn_some {s : State} {n : Spur} {c : Chan} (h : s.openIn n = some c) :
    s.inChan n = some c ∧ ∃ l, s.link c = some l ∧ l.isOpen = true := by
  unfold State.openIn at h
  cases hi : s.inChan n with
  | none => simp [hi] at h
  | some d =>
    cases hl : s.link d with
    | none => simp [hi, hl] at h
    | some l =>
      simp only [hi, hl, Option.ite_none_right_eq_some, Option.some.injEq] at h
      obtain ⟨hopen, rfl⟩ := h
      exact ⟨rfl, l, hl, hopen⟩

theorem Link.isDraining_of_open {l : Link} (h : l.isOpen = true) : l.isDraining = false := by
  unfold Link.isOpen at h
  unfold Link.isDraining
  cases hp : l.phase <;> simp_all

theorem State.openIn_live {s : State} {n : Spur} {c : Chan} {l : Link} (h : s.openIn n = some c)
    (hl : s.link c = some l) : l.isDraining = false := by
  obtain ⟨-, l', hl', hopen⟩ := State.openIn_some h
  obtain rfl : l = l' := Option.some.inj (hl.symm.trans hl')
  exact Link.isDraining_of_open hopen

/-- Without a drain there is none to complete (R38). -/
theorem drainTest_live {s : State} {c : Chan} {l : Link} (hl : s.link c = some l)
    (hd : l.isDraining = false) : drainTest c s = s := by
  unfold Link.isDraining at hd
  unfold drainTest
  rw [hl]
  cases hp : l.phase <;> simp_all

theorem State.setLink_same {s : State} {c : Chan} {l : Option Link} (h : s.link c = l) :
    s.setLink c l = s := by
  subst h
  have hset : s.channels.set c.val s.channels[c.val] = s.channels := Vector.set_getElem_self _
  show { s with channels := s.channels.set c.val s.channels[c.val] } = s
  rw [hset]

/-! ### Capture (R47, R157, R158) -/

section capture_rule
variable {s : State} {c : Chan} {l : Link} {body : List Byte}

theorem capture_noTee (hl : s.link c = some l) (ht : l.tee = none) : capture c body s = s := by
  simp only [capture, hl, ht]

theorem capture_fits {h : Handle} {g : Segment} (hl : s.link c = some l) (ht : l.tee = some h)
    (hg : s.segment h = some g) (hf : s.fits g body) :
    capture c body s = s.appended h g body := by
  simp only [capture, hl, ht, append_fits hg hf]

theorem captureFull_now {h : Handle} (hl : s.link c = some l) (hr : s.engine.records = none) :
    captureFull c h s = { (s.setLink c (some { l with tee := none })).setSegState h .ready with
      notices := s.notices.arrive (.capfull h
        (match s.segment h with | none => 0 | some g => g.entries.length)) } := by
  unfold captureFull
  rw [State.setTee_of hl, State.record_now]
  · cases hg : s.segment h with
    | none =>
      have hg' : (s.setLink c (some { l with tee := none })).segment h = none := hg
      simp only [State.setSegState, hg']
      rfl
    | some g =>
      rw [State.setSegState_of (by exact hg)]
      rfl
  · rw [← hr]
    unfold State.setSegState
    split <;> rfl

/-- A capture changes at most the tee, the store, the pool and the Notice Builder, as Captured says. -/
theorem capture_captures (hl : s.link c = some l) (hr : l.tee = none ∨ s.engine.records = none) :
    ∃ t st p nb, Captured s l body { l with tee := t } st p nb ∧ p.waiting = s.pool.waiting ∧
      capture c body s = State.setLink { s with store := st, pool := p, notices := nb } c
        (some { l with tee := t }) := by
  cases ht : l.tee with
  | none =>
    refine ⟨none, s.store, s.pool, s.notices, ⟨fun _ => ⟨?_, rfl, rfl, rfl⟩, ?_⟩, rfl, ?_⟩
    · rw [← ht]
    · intro h g hh
      rw [ht] at hh
      cases hh
    · rw [capture_noTee hl ht, ← ht]
      exact (State.setLink_same hl).symm
  | some h =>
    have hnone : l.tee ≠ none := by rw [ht]; exact Option.some_ne_none h
    have hrec : s.engine.records = none := hr.resolve_left hnone
    cases hg : s.segment h with
    | none =>
      refine ⟨none, s.store, s.pool, s.notices.arrive (.capfull h 0),
        ⟨fun hh => absurd hh hnone, ?_⟩, rfl, ?_⟩
      · intro h' g hh hg'
        obtain rfl : h = h' := Option.some.inj (ht.symm.trans hh)
        rw [hg] at hg'
        cases hg'
      · have hfull : append h body s = none := by simp only [append, hg]
        have hg' : (s.setLink c (some { l with tee := none })).segment h = none := hg
        simp only [capture, hl, ht, hfull, captureFull_now hl hrec, State.setSegState, hg', hg]
        rfl
    | some g =>
      by_cases hf : s.fits g body
      · have happ := capture_fits hl ht hg hf
        refine ⟨some h, (s.appended h g body).store, (s.appended h g body).pool, s.notices,
          ⟨fun hh => absurd hh hnone, fun h' g' hh hg' => ?_⟩, rfl, ?_⟩
        · obtain rfl : h = h' := Option.some.inj (ht.symm.trans hh)
          obtain rfl : g = g' := Option.some.inj (hg.symm.trans hg')
          exact ⟨fun _ => ⟨by rw [← ht], rfl, rfl, rfl⟩, fun hn => absurd hf hn⟩
        · rw [happ, ← ht]
          exact (State.setLink_same (s := s.appended h g body) (by exact hl)).symm
      · have hfull : append h body s = none := append_fails hg hf
        refine ⟨none, { s.store with
            segments := s.store.segments.set h.val (some { g with state := .ready }) }, s.pool,
          s.notices.arrive (.capfull h g.entries.length),
          ⟨fun hh => absurd hh hnone, fun h' g' hh hg' => ?_⟩, rfl, ?_⟩
        · obtain rfl : h = h' := Option.some.inj (ht.symm.trans hh)
          obtain rfl : g = g' := Option.some.inj (hg.symm.trans hg')
          exact ⟨fun hy => absurd hy hf, fun _ => ⟨rfl, rfl, rfl, rfl⟩⟩
        · simp only [capture, hl, ht, hfull, captureFull_now hl hrec, hg]
          rw [State.setSegState_of (by exact hg)]
          rfl

end capture_rule

theorem append_at (h : Handle) (body : List Byte) (s : State) (n : Spur) (col : Column)
    (js : List Job) : append h body (s.at n col js) =
      (append h body s).map fun u => u.at n col js := by
  cases hg : s.segment h with
  | none => simp only [append, State.at_segment, hg, Option.map_none]
  | some g =>
    by_cases hf : s.fits g body
    · have hat : (s.at n col js).fits g body := hf
      rw [append_fits hg hf, append_fits (by exact hg) hat, Option.map_some]
      rfl
    · have hat : ¬ (s.at n col js).fits g body := hf
      rw [append_fails hg hf, append_fails (by exact hg) hat, Option.map_none]

theorem captureFull_at (c : Chan) (h : Handle) (s : State) (n : Spur) (col : Column) (js : List Job) :
    captureFull c h (s.at n col js) = (captureFull c h s).at n col js := by
  have htee : (s.at n col js).setTee c none = (s.setTee c none).at n col js := by
    cases hl : s.link c with
    | none => simp only [State.setTee, State.at_link, hl]
    | some l => simp only [State.setTee, State.at_link, hl, State.at_setLink]
  have hseg : ∀ u : State, (u.at n col js).setSegState h .ready =
      (u.setSegState h .ready).at n col js := by
    intro u
    cases hg : u.segment h with
    | none => simp only [State.setSegState, State.at_segment, hg]
    | some g => simp only [State.setSegState, State.at_segment, hg, State.at_setSegment]
  simp only [captureFull, htee, hseg, State.at_segment, State.at_record]

theorem capture_at (c : Chan) (body : List Byte) (s : State) (n : Spur) (col : Column) (js : List Job) :
    capture c body (s.at n col js) = (capture c body s).at n col js := by
  cases hl : s.link c with
  | none => simp only [capture, State.at_link, hl]
  | some l =>
    cases ht : l.tee with
    | none => simp only [capture, State.at_link, hl, ht]
    | some h =>
      cases ha : append h body s with
      | none => simp only [capture, State.at_link, hl, ht, append_at, ha, Option.map_none,
          captureFull_at]
      | some u => simp only [capture, State.at_link, hl, ht, append_at, ha, Option.map_some]

/-! ### The closure (R111 to R113) -/

/-- The state after the bytes of a gather of channel c have become a parcel, or have been lost to full data
queues (R111, R112). -/
def State.forwarded (s : State) (c : Chan) (cls : DataClass) (bs : List Byte) : State :=
  let u := capture c bs s
  if u.arbiter.express.length + u.arbiter.normal.length < 48 then
    { u with arbiter := u.arbiter.join cls { chan := c, body := bs } }.countParcel c bs.length
  else
    let v := (u.record (.overrun c bs.length)).countDrop c
    { v with pool := v.pool.put false 1 (cellsFor bs.length) }

/-- The state after the overrun of a gather of channel c that lost m bytes (R113). -/
def State.overran (s : State) (c : Chan) (m : Nat) : State := (s.record (.overrun c m)).countDrop c

/-- The column once its gather has closed, before its snapshot is taken again. -/
def Column.closed (col : Column) : Column :=
  { col with gather := { col.gather with state := .empty, idleTimer := none } }

section close
variable {s : State} {n : Spur} {col : Column} {js : List Job} {k : Closure}

theorem closeGather_empty (hg : col.gather.state = .empty) : closeGather n k (s.at n col js) =
    s.at n col.closed (.retake n :: js) := by
  simp only [closeGather, State.at_gather, hg, State.at_setGather, State.at_push, Column.closed]
  rw [← hg]
  rfl

theorem closeGather_spare {c : Chan} {cls : DataClass} (hg : col.gather.state = .filling c cls [])
    (hk : k ≠ .terminator) : closeGather n k (s.at n col js) =
      State.at { s with pool := s.pool.put false 1 0 } n col.closed (.serve :: .retake n :: js) := by
  simp only [closeGather, State.at_gather, hg, State.at_setGather, State.at_push]
  rw [if_pos ⟨trivial, hk⟩, State.at_setGatherState, State.at_giveBack]
  rfl

theorem closeGather_forwards {c : Chan} {cls : DataClass} {bs : List Byte}
    (hg : col.gather.state = .filling c cls bs) (hb : bs ≠ [] ∨ k = .terminator) (hk : k ≠ .close) :
    ∃ ks, (ks = [] ∨ ks = [.serve]) ∧ closeGather n k (s.at n col js) =
      (s.forwarded c cls bs).at n col.closed (ks ++ .retake n :: js) := by
  have hcond : ¬ (bs = [] ∧ k ≠ .terminator) := by
    rintro ⟨h1, h2⟩
    exact hb.elim (fun h => h h1) h2
  have hcount : ∀ (u : State) a b, u.countClose c k a b = u := fun u a b => if_neg hk
  simp only [closeGather, State.at_gather, hg, State.at_setGather, State.at_push, if_neg hcond,
    forwardGather, capture_at, State.at_setGatherState, State.at_arbiter, hcount, State.forwarded,
    Config.dataQueueDepth]
  split
  · exact ⟨[], .inl rfl, rfl⟩
  · refine ⟨[.serve], .inr rfl, ?_⟩
    rw [State.at_record, State.at_countDrop, State.at_giveBack]
    rfl

theorem closeGather_overruns {c : Chan} {m : Nat} (hg : col.gather.state = .losing m)
    (hc : s.inChan n = some c) (hk : k ≠ .close) : closeGather n k (s.at n col js) =
      (s.overran c m).at n col.closed (.retake n :: js) := by
  have hcount : ∀ (u : State) a b, u.countClose c k a b = u := fun u a b => if_neg hk
  simp only [closeGather, State.at_gather, hg, State.at_setGather, State.at_push, State.at_inChan, hc,
    State.at_setGatherState, State.at_record, State.at_countDrop, hcount]
  rfl

end close

theorem Arbiter.join_eq (a : Arbiter) (cls : DataClass) (x : Inbound) :
    (cls = .normal ∧ (¬ ∃ y ∈ a.express, y.chan = x.chan) ∨
        cls = .express ∧ (∃ y ∈ a.normal, y.chan = x.chan) →
      a.join cls x = { a with normal := a.normal ++ [x] }) ∧
    (cls = .express ∧ (¬ ∃ y ∈ a.normal, y.chan = x.chan) ∨
        cls = .normal ∧ (∃ y ∈ a.express, y.chan = x.chan) →
      a.join cls x = { a with express := a.express ++ [x] }) := by
  have hany : ∀ l : List Inbound, (l.any fun y => decide (y.chan = x.chan)) = true ↔
      ∃ y ∈ l, y.chan = x.chan := by simp
  have hnone : ∀ l : List Inbound, (l.any fun y => decide (y.chan = x.chan)) = false ↔
      ¬ ∃ y ∈ l, y.chan = x.chan := fun l => by rw [← hany l, Bool.not_eq_true]
  rw [← hnone, ← hnone, ← hany, ← hany]
  constructor
  · rintro (⟨rfl, h⟩ | ⟨rfl, h⟩) <;> simp only [Arbiter.join, h] <;> rfl
  · rintro (⟨rfl, h⟩ | ⟨rfl, h⟩) <;> simp only [Arbiter.join, h] <;> rfl

theorem State.channel_countDrop (s : State) (c : Chan) : (s.countDrop c).channel c =
    { s.channel c with drops := satInc (s.channel c).drops } := State.channel_setChannel _ _ _

theorem State.channel_countParcel (s : State) (c : Chan) (k : Nat) : (s.countParcel c k).channel c =
    { s.channel c with
      parcels := (s.channel c).parcels + 1
      bytes := (s.channel c).bytes + BitVec.ofNat 32 k } := State.channel_setChannel _ _ _

/-- An overrun makes its record and one drop, and nothing else (R113). -/
theorem State.overran_frame {s : State} {c : Chan} {l : Link} (hl : s.link c = some l) (m : Nat)
    (n : Spur) (col : Column) :
    let t := (State.countDrop { s with notices := s.notices.arrive (.overrun c m) } c).setColumn n col
    t.link c = some l ∧ t.notices = s.notices.arrive (.overrun c m) ∧ t.pool = s.pool ∧
      t.arbiter = s.arbiter ∧ t.store = s.store ∧
      (t.channel c).drops = satInc (s.channel c).drops ∧
      (t.channel c).parcels = (s.channel c).parcels ∧ (t.channel c).bytes = (s.channel c).bytes := by
  intro t
  have hchan : t.channel c = { s.channel c with drops := satInc (s.channel c).drops } :=
    State.channel_countDrop _ c
  refine ⟨(State.link_countDrop _ c c).trans hl, rfl, rfl, rfl, rfl, ?_, ?_, ?_⟩ <;> rw [hchan]

/-- What a closure leaves alone. -/
structure State.ClosesTo (s u : State) : Prop where
  tx : u.tx = s.tx
  agenda : u.agenda = s.agenda
  columns : u.columns = s.columns
  waiting : u.pool.waiting = s.pool.waiting
  map : s.SameMap u

section forwarded
variable {s : State} {c : Chan} {l : Link} {cls : DataClass} {bs : List Byte}

theorem State.overran_now (h : s.engine.records = none) (m : Nat) : s.overran c m =
    State.countDrop { s with notices := s.notices.arrive (.overrun c m) } c := by
  rw [State.overran, State.record_now h]

theorem State.overran_closesTo (h : s.engine.records = none) (m : Nat) : s.ClosesTo (s.overran c m) := by
  rw [State.overran_now h]
  exact ⟨rfl, rfl, rfl, rfl, .of_links (fun d => State.link_countDrop _ c d) rfl⟩

theorem forwarded_forwards (hl : s.link c = some l)
    (hr : l.tee = none ∧ s.arbiter.express.length + s.arbiter.normal.length < 48 ∨
      s.engine.records = none) :
    Forwarded s (s.forwarded c cls bs) c l cls bs ∧ s.ClosesTo (s.forwarded c cls bs) := by
  obtain ⟨t, st, p, nb, hcap, hwait, heq⟩ := capture_captures (body := bs) hl (hr.imp_left And.left)
  let u : State := State.setLink { s with store := st, pool := p, notices := nb } c
    (some { l with tee := t })
  have hchan : u.channel c = { s.channel c with link := some { l with tee := t } } :=
    State.channel_setChannel _ _ _
  have hparcels : (u.channel c).parcels = (s.channel c).parcels := by rw [hchan]
  have hbytes : (u.channel c).bytes = (s.channel c).bytes := by rw [hchan]
  have hdrops : (u.channel c).drops = (s.channel c).drops := by rw [hchan]
  have hmap : s.SameMap u := (State.SameMap.of_links (fun _ => rfl) rfl).setLink hl rfl
  unfold State.forwarded
  rw [heq]
  by_cases hroom : s.arbiter.express.length + s.arbiter.normal.length < 48
  · rw [if_pos (by exact hroom)]
    refine ⟨⟨{ l with tee := t }, p, nb, hcap, ?_, fun _ => ⟨rfl, rfl, ?_, ?_, ?_, ?_, ?_⟩,
      fun h => absurd hroom (by omega)⟩, rfl, rfl, rfl, hwait, ?_⟩
    · rw [State.link_countParcel]
      exact State.link_setLink _ _ _
    · exact (Arbiter.join_eq s.arbiter cls { chan := c, body := bs }).1
    · exact (Arbiter.join_eq s.arbiter cls { chan := c, body := bs }).2
    · exact (congrArg Channel.parcels (State.channel_countParcel _ c _)).trans
        (congrArg (· + 1) hparcels)
    · exact (congrArg Channel.bytes (State.channel_countParcel _ c _)).trans
        (congrArg (· + BitVec.ofNat 32 bs.length) hbytes)
    · exact (congrArg Channel.drops (State.channel_countParcel _ c _)).trans hdrops
    · exact hmap.trans (.of_links (fun d => State.link_countParcel _ c d _) rfl)
  · rw [if_neg (by exact hroom)]
    have hrec : u.engine.records = none := hr.resolve_left fun h => hroom h.2
    have hrecord : u.record (.overrun c bs.length) =
        { u with notices := nb.arrive (.overrun c bs.length) } := State.record_now hrec _
    rw [hrecord]
    refine ⟨⟨{ l with tee := t }, p, nb, hcap, ?_, fun h => absurd h hroom,
      fun _ => ⟨rfl, rfl, rfl, ?_, ?_, ?_⟩⟩, rfl, rfl, rfl, hwait, ?_⟩
    · exact (State.link_countDrop _ c c).trans (State.link_setLink _ _ _)
    · exact (congrArg Channel.parcels (State.channel_countDrop _ c)).trans hparcels
    · exact (congrArg Channel.bytes (State.channel_countDrop _ c)).trans hbytes
    · exact (congrArg Channel.drops (State.channel_countDrop _ c)).trans (congrArg satInc hdrops)
    · exact hmap.trans (.of_links (fun d => State.link_countDrop _ c d) rfl)

end forwarded

theorem Forwarded.setColumn {s t : State} {c : Chan} {l : Link} {cls : DataClass} {bs : List Byte}
    (h : Forwarded s t c l cls bs) (n : Spur) (col : Column) :
    Forwarded s (t.setColumn n col) c l cls bs := by
  obtain ⟨link, p, nb, hcap, hlink, hroom, hfull⟩ := h
  exact ⟨link, p, nb, hcap, hlink, hroom, hfull⟩

/-! ### Acting on a due yield (R76) -/

/-- The lane that has turned out for a due yield and owes it (R69, R74, R76). -/
def Lane.yielded (l : Lane) : Lane :=
  { l with
    state := .turnOut, strobe := false, drive := none, inSnap := none, offer := false
    pulses := .none, guardTimer := some l.config.guard, yieldTimer := none
    yieldDue := false, yieldOwed := true }

section yield
variable {s : State} {n : Spur} {col : Column} {js : List Job}

theorem yieldOut_at (hst : col.lane.state = .idleIn) (hd : col.lane.yieldDue = true) :
    yieldOut n (s.at n col js) = s.at n { col with lane := col.lane.yielded } js := by
  simp only [yieldOut, State.at_lane]
  rw [if_pos ⟨hst, hd⟩]
  simp only [stopTaking_at, State.at_lane, State.at_setLane, turnOut_at]
  rfl

/-- Whatever the retaken snapshot (R79), a yield leaves of the lane all but the TOGGLE reference. -/
theorem retake_at (s : State) (n : Spur) (col : Column) (js : List Job) :
    ∃ (l : Lane) (lossy : Bool), retake n (s.at n col js) =
        s.at n { col with lane := l, gather := { col.gather with lossy := lossy } } js ∧
      l.yielded = { col.lane.yielded with reference := l.reference } ∧
      l.state = col.lane.state ∧ l.yieldDue = col.lane.yieldDue := by
  cases hin : col.lane.inSnap with
  | none => exact ⟨col.lane, col.gather.lossy, retake_none hin, rfl, rfl, rfl⟩
  | some old =>
    cases hc : s.openIn n with
    | none => exact ⟨col.lane, col.gather.lossy, retake_closed hc, rfl, rfl, rfl⟩
    | some c =>
      by_cases hd : (s.inProfile c).discipline = old.discipline
      · exact ⟨_, _, retake_same hin hc hd, rfl, rfl, rfl⟩
      · exact ⟨_, _, retake_other hin hc hd, rfl, rfl, rfl⟩

end yield

theorem decideIn_yields {s : State} {n : Spur} {col : Column} {js : List Job}
    (hd : col.lane.yieldDue = true) : decideIn n (s.at n col js) =
      s.at n col ((if col.gather.isPartial then [.closeGather n .yield, .yieldOut n]
        else [.yieldOut n]) ++ js) := by
  simp only [decideIn, State.at_lane, State.at_gather, hd, if_true, State.at_push]
  split <;> rfl

/-- A rule that closes the gather, up to the retaking of the snapshot (R79). -/
theorem Leads.closes {m : Nat} {s u t : State} {n : Spur} {col : Column} {js ks : List Job}
    {k : Closure} (hw : u.pool.waiting = []) (hks : ks = [] ∨ ks = [.serve])
    (hd : closeGather n k (s.at n col js) = u.at n col.closed (ks ++ .retake n :: js))
    (h : Leads m (u.at n col.closed (.retake n :: js)) t) :
    Leads (m + 2) (s.at n col (.closeGather n k :: js)) t := by
  refine .nextAt hd ?_
  rcases hks with rfl | rfl
  · obtain ⟨i, hi, hrun⟩ := h
    exact ⟨i, by omega, hrun⟩
  · exact .nextAt (u := u.at n col.closed (.retake n :: js)) (serve_alone (by exact hw)) h

/-- Settles O56. -/
theorem yieldTimerExpires : Obligations.YieldTimerExpires := by
  unfold Obligations.YieldTimerExpires
  intro s n v hs hv l out
  let due : Column := { s.column n with lane := { l with yieldTimer := none, yieldDue := true } }
  have hexpired : ∀ js, yieldExpired n (s.at n (s.column n) js) = s.at n due (.decide n :: js) := by
    intro js
    have hsome : (s.column n).lane.yieldTimer.isSome = true := by
      show (s.lane n).yieldTimer.isSome = true
      rw [hv]
      rfl
    simp only [yieldExpired, State.at_lane, hsome, if_true, State.at_setLane, State.at_push]
    rfl
  have hact : exec (.yieldTimerExpiry n) s = s.act (yieldExpired n) := rfl
  refine ⟨fun hst => ?_, fun hst hg => ?_, fun c k hst hc hk hrec => ?_⟩
  · rw [hact]
    refine State.act_at (k := 1) (u := s) (col := due) hs ?_ (by norm_num) rfl rfl
    rw [hexpired]
    refine .nextAt (decideLane_busy ?_ ?_) (.refl 0 _)
    · rw [State.at_lane]
      rcases hst with h | h <;> exact fun e => LaneState.noConfusion (h.symm.trans e)
    · rw [State.at_lane]
      rcases hst with h | h <;> exact fun e => LaneState.noConfusion (h.symm.trans e)
  · rw [hact]
    refine State.act_at (k := 2) (u := s) (col := { s.column n with lane := out }) hs ?_ (by norm_num)
      rfl rfl
    rw [hexpired]
    refine .nextAt (u := s.at n due [.yieldOut n, .arbiter]) ?_
      (.nextAt (yieldOut_at (by exact hst) rfl) (.refl 0 _))
    show decideLane n _ = _
    rw [decideLane_idleIn (by rw [State.at_lane]; exact hst), decideIn_yields rfl,
      Gather.isPartial_false (by exact hg)]
    rfl
  · intro yielded
    have hyields : ∀ (u : State) (ks : List Job), u.pool.waiting = [] → u.tx = s.tx →
        u.agenda = s.agenda → (s.gather n).state ≠ .empty → (ks = [] ∨ ks = [.serve]) →
        closeGather n .yield (s.at n due [.yieldOut n, .arbiter]) =
          u.at n due.closed (ks ++ [.retake n, .yieldOut n, .arbiter]) →
        ∃ col, yielded (u.setColumn n col) := by
      intro u ks hw htx ha hpartial hks hclose
      obtain ⟨l', lossy, hret, hlane, hst', hdue'⟩ :=
        retake_at u n due.closed [.yieldOut n, .arbiter]
      have hout : l'.yielded = { out with reference := l'.yielded.reference } := by
        rw [hlane]
        rfl
      refine ⟨{ due.closed with
        lane := l'.yielded, gather := { due.closed.gather with lossy := lossy } }, ?_, ?_, ?_, ?_, ?_⟩
      · rw [hact]
        refine State.act_at (k := 5) (u := u) hs ?_ (by norm_num) htx ha
        rw [hexpired]
        refine .nextAt (u := s.at n due [.closeGather n .yield, .yieldOut n, .arbiter]) ?_
          (.closes hw hks hclose (.nextAt hret
            (.nextAt (yieldOut_at (hst'.trans hst) hdue') (.refl 0 _))))
        show decideLane n _ = _
        rw [decideLane_idleIn (by rw [State.at_lane]; exact hst), decideIn_yields rfl,
          (Gather.isPartial_iff _).mpr (by exact hpartial)]
        rfl
      · rw [State.lane, State.column_setColumn]
        exact hout
      · rw [State.queue, State.column_setColumn]
        rfl
      · rw [State.gather, State.column_setColumn]
        rfl
      · rw [State.gather, State.column_setColumn]
        rfl
    refine ⟨fun cls bs hg hb => ?_, fun cls hg => ?_, fun m hg => ?_⟩
    · obtain ⟨hforward, hto⟩ := forwarded_forwards (cls := cls) (bs := bs) hk (.inr hrec)
      obtain ⟨ks, hks, hclose⟩ := closeGather_forwards (s := s) (n := n) (col := due)
        (js := [.yieldOut n, .arbiter]) (k := .yield) (by exact hg) (.inl hb) (by decide)
      obtain ⟨col, hy⟩ := hyields _ ks (hto.waiting.trans hs.alone) hto.tx hto.agenda
        (by rw [hg]; exact GatherState.noConfusion) hks hclose
      exact ⟨_, hy, hforward.setColumn n col⟩
    · obtain ⟨col, hy⟩ := hyields { s with pool := s.pool.put false 1 0 } [.serve] hs.alone rfl rfl
        (by rw [hg]; exact GatherState.noConfusion) (.inr rfl)
        (closeGather_spare (by exact hg) (by decide))
      exact ⟨_, hy, rfl, rfl, rfl, rfl, rfl⟩
    · have hto := State.overran_closesTo (c := c) hrec m
      obtain ⟨col, hy⟩ := hyields _ [] (hto.waiting.trans hs.alone) hto.tx hto.agenda
        (by rw [hg]; exact GatherState.noConfusion) (.inl rfl)
        (closeGather_overruns (by exact hg) (State.openIn_some hc).1 (by decide))
      rw [State.overran_now hrec] at hy
      exact ⟨_, hy, State.overran_frame hk m n col⟩

/-! ### The lane that goes on after a closure (R71, R74) -/

/-- A GATED lane that has retaken its snapshot goes on without a change (R79, R89). -/
theorem retakes_gated {s u : State} {n : Spur} {col : Column} {js : List Job} {c : Chan} {p : Profile}
    (hm : s.SameMap u) (hc : s.openIn n = some c) (hin : col.lane.inSnap = some p)
    (hp : p.discipline = .gated) (hp' : (s.inProfile c).discipline = .gated) :
    retake n (u.at n col js) = u.at n (col.snapped (s.inProfile c)) js := by
  rw [retake_same hin (hm.openIn n ▸ hc) (by rw [hm.inProfile, hp, hp']), hm.inProfile]

/-- Settles O57. -/
theorem idleTimerForwardsGather : Obligations.IdleTimerForwardsGather := by
  unfold Obligations.IdleTimerForwardsGather
  intro s n v c l p hs hv hc hl hst hin hp hp' hdue hwork hhome ended
  have hexpired : ∀ js, idleExpired n (s.at n (s.column n) js) =
      s.at n (s.column n) (.closeGather n .idle :: .decide n :: .takeBeats n :: js) := by
    intro js
    have hsome : (s.column n).gather.idleTimer.isSome = true := by
      show (s.gather n).idleTimer.isSome = true
      rw [hv]
      rfl
    simp only [idleExpired, State.at_gather, hsome, if_true, State.at_push]
    rfl
  let col : Column := (s.column n).closed.snapped (s.inProfile c)
  have hends : ∀ (u : State) (ks : List Job), s.ClosesTo u → (ks = [] ∨ ks = [.serve]) →
      closeGather n .idle (s.at n (s.column n) [.decide n, .takeBeats n, .arbiter]) =
        u.at n (s.column n).closed (ks ++ [.retake n, .decide n, .takeBeats n, .arbiter]) →
      ended (u.setColumn n col) := by
    intro u ks hto hks hclose
    have hopen : u.openIn n = some c := (hto.map.openIn n).trans hc
    have hidle : (u.at n col [.takeBeats n, .arbiter]).lane n = col.lane := State.at_lane _ _ _ _
    have hdecide : decideLane n (u.at n col [.takeBeats n, .arbiter]) =
        u.at n col [.takeBeats n, .arbiter] := by
      rw [decideLane_idleIn (by rw [hidle]; exact hst)]
      refine decideIn_stays (by rw [hidle]; exact hdue) (.inl ?_) (.inl (by rw [hidle]; exact hhome))
      rw [State.at_outWork, hto.map.serviceable]
      exact hwork
    have htake : takeBeats n (u.at n col [.arbiter]) = u.at n col [.arbiter] := by
      rw [takeBeats_goes (by exact hst) hopen rfl, goOnTaking_gated hp']
    refine ⟨?_, ?_, ?_, ?_⟩
    · show s.act (idleExpired n) = _
      refine State.act_at (k := 5) hs ?_ (by norm_num) hto.tx hto.agenda
      rw [hexpired]
      exact .closes (hto.waiting.trans hs.alone) hks hclose
        (.nextAt (retakes_gated hto.map hc (by exact hin) hp hp')
          (.nextAt hdecide (.nextAt htake (.refl 0 _))))
    · rw [State.gather, State.column_setColumn]
      rfl
    · rw [State.gather, State.column_setColumn]
      rfl
    · rw [State.lane, State.column_setColumn]
      exact hst
  refine ⟨fun cls bs hg hb hr => ?_, fun m hg hrec => ?_⟩
  · obtain ⟨hforward, hto⟩ := forwarded_forwards (cls := cls) (bs := bs) hl hr
    obtain ⟨ks, hks, hclose⟩ := closeGather_forwards (s := s) (n := n) (col := s.column n)
      (js := [.decide n, .takeBeats n, .arbiter]) (k := .idle) hg (.inl hb) (by decide)
    exact ⟨_, hends _ ks hto hks hclose, hforward.setColumn n col⟩
  · have hend := hends _ [] (State.overran_closesTo hrec m) (.inl rfl)
      (closeGather_overruns hg (State.openIn_some hc).1 (by decide))
    rw [State.overran_now hrec] at hend
    exact ⟨_, hend, State.overran_frame hl m n col⟩

end Sys2Proof.Machine
end

section
/-! Inbound beats (04, section 4.7; 05, sections 5.1 and 5.2): how a byte is latched, taken, held or lost,
and how its beat ends. -/

namespace Sys2Proof.Machine

-- the proofs are elaborated one after another: all at once they ask for too many threads
set_option Elab.async false

/-! ### The end of an inbound beat (R86, R104) -/

/-- The lane once its inbound beat has ended (R86). -/
def Lane.beatEnded (l : Lane) : Lane :=
  { l with receiving := none, yieldTimer := l.yieldTimer.map fun _ => l.config.yield }

/-- The column of a lane that is back in IDLE_IN after a beat that leaves its gather open (R106). -/
def Column.rested (col : Column) (idle : Option Byte) : Column :=
  { col with
    gather := { col.gather with idleTimer := idle }
    lane := { col.lane with
      state := .idleIn, receiving := none, yieldTimer := none, workSeen := false } }

/-- The column of a lane that is back in IDLE_IN after a beat that closed its gather (R79, R104). -/
def Column.handed (col : Column) (p : Profile) : Column :=
  { queue := col.queue
    gather := { col.gather with state := .empty, idleTimer := none, lossy := p.discipline.lossy }
    lane := { col.lane with
      state := .idleIn, receiving := none, yieldTimer := none, workSeen := false
      inSnap := some p } }

section beatEnd
variable {s : State} {n : Spur} {col : Column} {js : List Job} {c : Chan} {k : InSettings}
  {x : Receiving}

/-- The closure that the end of a beat brings (R104). -/
def Receiving.closes (x : Receiving) (g : Gather) (k : InSettings) (cl : Closure) : Prop :=
  x.term = true ∧ cl = .terminator ∨ x.term = false ∧ g.count = k.gatherCount ∧ cl = .count

theorem beatEnd_closing (hc : s.openIn n = some c) (hk : s.inSettings c = some k)
    (hr : col.lane.receiving = some x) (ht : x.tests = true) {cl : Closure}
    (hcl : x.closes col.gather k cl) : beatEnd n (s.at n col js) =
      s.at n { col with lane := col.lane.beatEnded }
        (.closeGather n cl :: .drainTest c :: .idleIn n :: js) := by
  have hin := (State.openIn_some hc).1
  rcases hcl with ⟨hterm, rfl⟩ | ⟨hterm, hcount, rfl⟩
  · simp [beatEnd, closureTest, hr, ht, hc, hk, hin, hterm, Lane.beatEnded]
  · simp [beatEnd, closureTest, hr, ht, hc, hk, hin, hterm, hcount, Lane.beatEnded]

theorem beatEnd_open (hc : s.openIn n = some c) (hk : s.inSettings c = some k)
    (hr : col.lane.receiving = some x) (ht : x.tests = true) (hterm : x.term = false)
    (hcount : col.gather.count ≠ k.gatherCount) (hpart : col.gather.state ≠ .empty) :
    beatEnd n (s.at n col js) =
      s.at n { col with
        lane := col.lane.beatEnded, gather := { col.gather with idleTimer := k.idleGap } }
        (.drainTest c :: .idleIn n :: js) := by
  have hin := (State.openIn_some hc).1
  have hp := (Gather.isPartial_iff _).mpr hpart
  simp [beatEnd, closureTest, hr, ht, hc, hk, hin, hterm, hcount, hp, Lane.beatEnded]

variable {l : Link} (hc : s.openIn n = some c) (hl : s.link c = some l)
  (hk : s.inSettings c = some k) (hr : col.lane.receiving = some x) (ht : x.tests = true)
  (hst : col.lane.state = .receiving) (hdue : col.lane.yieldDue = false)
  (hwork : col.queue.any s.serviceable = false)
include hc hl hk hr ht hst hdue hwork

/-- A beat that leaves its gather open (R106), up to the next taking of beats (R74). -/
theorem Leads.beatRests {m : Nat} {t : State} (hterm : x.term = false)
    (hcount : col.gather.count ≠ k.gatherCount) (hpart : col.gather.state ≠ .empty)
    (h : Leads m (takeBeats n (s.at n (col.rested k.idleGap) js)) t) :
    Leads (m + 4) (s.at n col (.beatEnd n :: js)) t := by
  refine .nextAt (beatEnd_open hc hk hr ht hterm hcount hpart)
    (.nextAt (drainTest_live (by exact hl) (State.openIn_live hc hl))
      (.nextAt (idleIn_takes (by exact .inl hst) rfl (by exact hdue) (by exact hwork) (.inr (.inl ?_)))
        (.jobAt h)))
  rw [hc]
  rfl

/-- A beat that closes its gather (R104), up to the next taking of beats (R74). -/
theorem Leads.beatCloses {m : Nat} {u t : State} {ks : List Job} {cl : Closure} {p : Profile}
    (hcl : x.closes col.gather k cl) (hto : s.ClosesTo u) (hw : s.pool.waiting = [])
    (hks : ks = [] ∨ ks = [.serve])
    (hclose : closeGather n cl (s.at n { col with lane := col.lane.beatEnded }
        (.drainTest c :: .idleIn n :: js)) =
      u.at n { col with lane := col.lane.beatEnded }.closed
        (ks ++ .retake n :: .drainTest c :: .idleIn n :: js))
    (hin : col.lane.inSnap = some p) (hp : (s.inProfile c).discipline = p.discipline)
    (h : Leads m (takeBeats n (u.at n (col.handed (s.inProfile c)) js)) t) :
    Leads (m + 7) (s.at n col (.beatEnd n :: js)) t := by
  obtain ⟨l', hl', hshape⟩ := hto.map.link hl
  have hopen : u.openIn n = some c := (hto.map.openIn n).trans hc
  have hlive : l'.isDraining = false :=
    (Link.shape_eq_isDraining hshape).trans (State.openIn_live hc hl)
  have hsnap : u.inProfile c = s.inProfile c := hto.map.inProfile c
  refine .nextAt (beatEnd_closing hc hk hr ht hcl) (.closes (hto.waiting.trans hw) hks hclose
    (.nextAt (retake_same (by exact hin) hopen (by rw [hsnap]; exact hp))
      (.nextAt (drainTest_live (by exact hl') hlive)
        (.nextAt (idleIn_takes (by exact .inl hst) rfl (by exact hdue) ?_ (.inr (.inl ?_)))
          (.jobAt ?_)))))
  · rw [hto.map.serviceable]
    exact hwork
  · rw [hopen]
    rfl
  · rw [hsnap]
    exact h

end beatEnd

/-- The act whose inbound beat ends with the closure of its gather, forwarded or overrun (R104, R111 to
R113): col is the column as the beat ends, and last the column once the lane takes beats again. -/
theorem act_closesBeat {s : State} {n : Spur} {f : State → State} {col last : Column} {c : Chan}
    {l : Link} {k : InSettings} {x : Receiving} {p : Profile} (hs : Settled s)
    (hf : f (s.at n (s.column n) [.arbiter]) = s.at n col [.beatEnd n, .arbiter])
    (hc : s.openIn n = some c) (hl : s.link c = some l) (hk : s.inSettings c = some k)
    (hr : col.lane.receiving = some x) (ht : x.tests = true) (hst : col.lane.state = .receiving)
    (hdue : col.lane.yieldDue = false) (hwork : col.queue.any s.serviceable = false)
    (hrec : s.engine.records = none) (hin : col.lane.inSnap = some p)
    (hp : (s.inProfile c).discipline = p.discipline)
    (htake : ∀ u : State, s.SameMap u → takeBeats n (u.at n (col.handed (s.inProfile c)) [.arbiter]) =
      u.at n last [.arbiter]) :
    (∀ cls bs, col.gather.state = .filling c cls bs →
      x.term = true ∨ bs ≠ [] ∧ bs.length = k.gatherCount →
      s.act f = .next ((s.forwarded c cls bs).setColumn n last)) ∧
    (∀ m, col.gather.state = .losing m → x.term = true ∨ m = k.gatherCount →
      s.act f = .next ((s.overran c m).setColumn n last)) := by
  have hends : ∀ (u : State) (ks : List Job) (cl : Closure), s.ClosesTo u →
      (ks = [] ∨ ks = [.serve]) → x.closes col.gather k cl →
      closeGather n cl (s.at n { col with lane := col.lane.beatEnded }
        [.drainTest c, .idleIn n, .arbiter]) =
        u.at n { col with lane := col.lane.beatEnded }.closed
          (ks ++ [.retake n, .drainTest c, .idleIn n, .arbiter]) →
      s.act f = .next (u.setColumn n last) := by
    intro u ks cl hto hks hcl hclose
    refine State.act_at (k := 7) hs ?_ (by norm_num) hto.tx hto.agenda
    rw [hf]
    refine .beatCloses hc hl hk hr ht hst hdue hwork hcl hto hs.alone hks hclose hin hp ?_
    exact .of_eq (htake u hto.map)
  have hcloses : ∀ b : Nat, col.gather.count = b → x.term = true ∨ b = k.gatherCount →
      ∃ cl, x.closes col.gather k cl ∧ cl ≠ .close ∧ (x.term = true → cl = .terminator) := by
    intro b hb h
    cases hterm : x.term with
    | true => exact ⟨.terminator, .inl ⟨hterm, rfl⟩, by decide, fun _ => rfl⟩
    | false =>
      refine ⟨.count, .inr ⟨hterm, ?_, rfl⟩, by decide, fun h => by cases h⟩
      rw [hterm] at h
      exact hb.trans (h.resolve_left Bool.false_ne_true)
  refine ⟨fun cls bs hg hend => ?_, fun m hg hend => ?_⟩
  · obtain ⟨cl, hcl, hne, hterm⟩ := hcloses bs.length (by simp only [Gather.count, hg])
      (hend.imp_right And.right)
    obtain ⟨hforward, hto⟩ := forwarded_forwards (cls := cls) (bs := bs) hl (.inr hrec)
    obtain ⟨ks, hks, hclose⟩ := closeGather_forwards (s := s) (n := n)
      (col := { col with lane := col.lane.beatEnded }) (js := [.drainTest c, .idleIn n, .arbiter])
      (k := cl) hg (hend.symm.imp And.left hterm) hne
    exact hends _ ks cl hto hks hcl hclose
  · obtain ⟨cl, hcl, hne, -⟩ := hcloses m (by simp only [Gather.count, hg]) hend
    exact hends _ [] cl (State.overran_closesTo hrec m) (.inl rfl) hcl
      (closeGather_overruns (by exact hg) (State.openIn_some hc).1 hne)

/-! ### The byte handed to the Gather Unit (R86, R98 to R103) -/

section handing
variable {s : State} {n : Spur} {col : Column} {js : List Job} {c : Chan} {k : InSettings} {d : Byte}

theorem isTerminator_at (hc : s.openIn n = some c) (hk : s.inSettings c = some k) :
    isTerminator n d (s.at n col js) = k.ends d := by
  simp only [isTerminator, State.at_openIn, hc, State.at_inSettings, hk]

theorem Takes.isPartial {g : GatherState} {q : Pool} (h : Takes s n c k d g q) : g ≠ .empty := by
  unfold Takes at h
  cases hg : (s.gather n).state with
  | empty =>
    rw [hg] at h
    cases hd : k.drops d <;> simp_all
  | filling c' cls bs =>
    rw [hg] at h
    cases hd : k.drops d <;> simp_all
  | losing m =>
    rw [hg] at h
    simp_all

theorem Takes.at {g : GatherState} {q : Pool} (h : Takes s n c k d g q)
    (hg : col.gather.state = (s.gather n).state) : Takes (s.at n col js) n c k d g q := by
  unfold Takes at h ⊢
  rw [State.at_gather, hg]
  exact h

theorem Refuses.at {dd kk : Nat} (h : Refuses s n k d dd kk)
    (hg : col.gather.state = (s.gather n).state) : Refuses (s.at n col js) n k d dd kk := by
  unfold Refuses at h ⊢
  rw [State.at_gather, hg]
  exact h

theorem handByte_takes {g : GatherState} {q : Pool} (hc : s.openIn n = some c)
    (hk : s.inSettings c = some k) (h : Takes s n c k d g q)
    (hg : col.gather.state = (s.gather n).state) : handByte n d (s.at n col js) =
      { state := State.at { s with pool := q } n
          { col with gather := { col.gather with state := g } } js
        tests := true, waits := false } := by
  simp only [handByte, State.at_openIn, hc, State.at_inSettings, hk, gatherByte_takes (h.at hg)]
  exact congrArg (fun t => Taken.mk t true false)
    (State.at_setGatherState { s with pool := q } n col js g)

theorem handByte_refuses {dd kk : Nat} (hc : s.openIn n = some c)
    (hk : s.inSettings c = some k) (h : Refuses s n k d dd kk)
    (hg : col.gather.state = (s.gather n).state) : handByte n d (s.at n col js) =
      refusedByte n { byte := d, term := k.drops d } dd kk
        (col.gather.count + if k.drops d then 0 else 1) (s.at n col js) := by
  simp only [handByte, State.at_openIn, hc, State.at_inSettings, hk, gatherByte_refuses (h.at hg),
    State.at_gather]

end handing

/-! ### The strobe width and the pacing interval of a lane that takes beats (R89, R90) -/

section strobes
variable {s : State} {n : Spur} {col : Column} {js : List Job} {x : Receiving}

theorem strobeElapsed_in (hs : col.lane.sending = none) (hr : col.lane.receiving = some x) :
    strobeElapsed n (s.at n col js) = strobeElapsedIn n x (s.at n col js) := by
  simp only [strobeElapsed, State.at_lane, hs, hr]

/-- The end of a GATED beat (R89). -/
theorem strobeElapsedIn_gated (h : x.phase = .strobe) : strobeElapsedIn n x (s.at n col js) =
    s.at n { col with lane := { col.lane with strobe := false } } (.beatEnd n :: js) := by
  simp only [strobeElapsedIn, h, State.at_lane, State.at_setLane, State.at_push]
  rfl

/-- A PACED pulse latches its byte, which the Gather Unit takes (R90, R98). -/
theorem strobeElapsedIn_paced {c : Chan} {k : InSettings} {g : GatherState} {q : Pool}
    (h : x.phase = .pulse) (hc : s.openIn n = some c) (hk : s.inSettings c = some k)
    (ht : Takes s n c k col.lane.dataIn g q) (hg : col.gather.state = (s.gather n).state) :
    strobeElapsedIn n x (s.at n col js) = State.at { s with pool := q } n { col with
      gather := { col.gather with state := g }
      lane := { col.lane with
        strobe := false
        receiving := some { x with
          byte := some col.lane.dataIn, tests := true, term := k.ends col.lane.dataIn } } }
        (.beatEnd n :: js) := by
  simp only [strobeElapsedIn, h, State.at_lane, State.at_push, isTerminator_at hc hk,
    handByte_takes hc hk ht hg, State.at_setLane]
  rfl

theorem pacingElapsed_in (hs : col.lane.sending = none) (hr : col.lane.pulses = .running) :
    pacingElapsed n (s.at n col js) =
      s.at n { col with lane := { col.lane with pulses := .elapsed } } (.takeBeats n :: js) := by
  simp only [pacingElapsed, State.at_lane, hs, if_pos hr, State.at_setLane, State.at_push]
  rw [← hs]
  rfl

end strobes

/-- Settles O53. -/
theorem gatedBeatEnds : Obligations.GatedBeatEnds := by
  unfold Obligations.GatedBeatEnds
  intro s n d c k p l hs hsend hin hdue hwork hc hl hk ln goesOn idle pulsing
  have hsent : (s.column n).lane.sending = none := hsend
  refine ⟨fun x hst hr hph ht hp => ?_, ?_, fun hp hrun => ⟨fun hst => ?_, fun hst => ?_⟩⟩
  · let col : Column := { s.column n with lane := { ln with dataIn := d, strobe := false } }
    let f : State → State := fun t => strobeElapsed n (t.setDataIn n d)
    have hact : exec (.strobeWidthElapsed n d) s = s.act f := exec_strobeWidthElapsed hs d
    have hf : f (s.at n (s.column n) [.arbiter]) = s.at n col [.beatEnd n, .arbiter] := by
      show strobeElapsed n _ = _
      rw [State.at_setDataIn, strobeElapsed_in (x := x) (by exact hsent) (by exact hr),
        strobeElapsedIn_gated hph]
      rfl
    have hclosing := fun hrec (hp' : (s.inProfile c).discipline = .gated) =>
      act_closesBeat (col := col) (last := col.handed (s.inProfile c)) hs
      hf hc hl hk hr ht hst hdue hwork hrec hin (hp'.trans hp.symm) fun u hm => by
        rw [takeBeats_goes rfl ((hm.openIn n).trans hc) rfl, goOnTaking_gated hp']
    refine ⟨fun c' cls bs hterm hg hcount => ?_, fun cls bs hg hend hrec hhome hp' => ?_,
      fun m hg hend hrec hhome hp' => ?_⟩
    · show exec _ s = _
      rw [hact]
      refine State.act_at (k := 4) (u := s) (col := col.rested k.idleGap) hs ?_ (by norm_num) rfl rfl
      rw [hf]
      refine .beatRests (col := col) hc hl hk hr ht hst hdue hwork hterm ?_ ?_ (.of_eq ?_)
      · rw [Gather.count, show col.gather.state = .filling c' cls bs from hg]
        exact hcount
      · rw [show col.gather.state = .filling c' cls bs from hg]
        exact GatherState.noConfusion
      · rw [takeBeats_goes rfl hc (by exact hin), goOnTaking_gated hp]
    · have hforward := (forwarded_forwards (cls := cls) (bs := bs) hl (.inr hrec)).1
      refine ⟨_, hact.trans ((hclosing hrec hp').1 cls bs hg hend), hforward.setColumn n _, ?_⟩
      rw [State.gather, State.lane, State.column_setColumn]
      exact ⟨rfl, rfl, rfl, rfl, rfl, rfl⟩
    · have hcloses := (hclosing hrec hp').2 m hg hend
      rw [State.overran_now hrec] at hcloses
      obtain ⟨hlink, hnotices, hpool, harb, hstore, hdrops, hparcels, hbytes⟩ :=
        State.overran_frame hl m n (col.handed (s.inProfile c))
      refine ⟨_, hact.trans hcloses, hlink, hnotices, hpool, harb, hstore, hdrops, hparcels, hbytes, ?_⟩
      rw [State.gather, State.lane, State.column_setColumn]
      exact ⟨rfl, rfl, rfl⟩
  · intro x g q hst hr hph hp htakes hends took hcount
    let u : State := { s with pool := q }
    let beat : Receiving := { x with byte := some d, tests := true, term := k.ends d }
    let col : Column := { s.column n with
      gather := took
      lane := { ln with dataIn := d, strobe := false, receiving := some beat } }
    have hrests : ∀ last, takeBeats n (u.at n (col.rested k.idleGap) [.arbiter]) =
        u.at n last [.arbiter] → exec (.strobeWidthElapsed n d) s = .next (u.setColumn n last) := by
      intro last hlast
      rw [exec_strobeWidthElapsed hs]
      refine State.act_at (k := 4) hs ?_ (by norm_num) rfl rfl
      have hf : strobeElapsed n ((s.at n (s.column n) [.arbiter]).setDataIn n d) =
          u.at n col [.beatEnd n, .arbiter] := by
        rw [State.at_setDataIn, strobeElapsed_in (x := x) (by exact hsent) (by exact hr)]
        exact strobeElapsedIn_paced hph hc hk htakes rfl
      rw [hf]
      exact .beatRests (s := u) (col := col) (x := beat) hc hl hk rfl rfl hst hdue hwork hends hcount
        htakes.isPartial (.of_eq hlast)
    refine ⟨fun hrun => hrests (col.rested k.idleGap) ?_,
      fun hel => hrests ((col.rested k.idleGap).pulsed p) ?_⟩
    · rw [takeBeats_goes (s := u) rfl hc (by exact hin), goOnTaking_paced hp (by exact hrun)]
    · rw [takeBeats_goes (s := u) rfl hc (by exact hin), goOnTaking_pulses hp]
      rw [show (col.rested k.idleGap).lane.pulses = .elapsed from hel]
      exact Pulses.noConfusion
  · let col : Column := { s.column n with lane := { ln with pulses := .elapsed } }
    show s.act (pacingElapsed n) = .next (s.setColumn n (col.pulsed p))
    refine State.act_at (k := 1) (u := s) hs ?_ (by norm_num) rfl rfl
    rw [pacingElapsed_in hsent (by exact hrun)]
    refine .nextAt (u := s.at n (col.pulsed p) [.arbiter]) ?_ (.refl 0 _)
    show takeBeats n (s.at n col [.arbiter]) = _
    rw [takeBeats_goes (by exact hst) hc (by exact hin), goOnTaking_pulses hp Pulses.noConfusion]
  · let col : Column := { s.column n with lane := { ln with pulses := .elapsed } }
    show s.act (pacingElapsed n) = .next (s.setColumn n col)
    refine State.act_at (k := 1) (u := s) hs ?_ (by norm_num) rfl rfl
    rw [pacingElapsed_in hsent (by exact hrun)]
    refine .nextAt (takeBeats_busy ?_) (.refl 0 _)
    show ln.state ≠ .idleIn
    rw [hst]
    exact LaneState.noConfusion

/-! ### A byte is latched (R87, R89, R91) -/

section latching
variable {s : State} {n : Spur} {col : Column} {js : List Job} {c : Chan} {k : InSettings} {p : Profile}

/-- The beat of a byte that the OPEN channel's Gather Unit judges (R86, R98). -/
def Profile.beat (p : Profile) (k : InSettings) (d : Byte) (phase : InPhase) : Receiving :=
  { disc := p.discipline, ackLimit := p.ackLimit, phase := phase, byte := some d
    tests := true, term := k.ends d, ackTimer := none }

/-- The column as the latch begins: the idle timer is stopped (R106). -/
def Column.latching (col : Column) : Column :=
  { col with gather := { col.gather with idleTimer := none } }

/-- GATED acknowledges by its strobe as it latches (R89). -/
theorem latchByte_gated {u : State} {g : Gather} {ks : List Job} {w : Bool}
    (hc : s.openIn n = some c) (hk : s.inSettings c = some k) (hp : p.discipline = .gated)
    (h : handByte n col.lane.dataIn (s.at n col.latching js) =
      { state := u.at n { col with gather := g } ks, tests := true, waits := w }) :
    latchByte n p (s.at n col js) = u.at n { col with
      gather := g
      lane := { col.lane with
        state := .receiving, offer := false, strobe := true
        receiving := some (p.beat k col.lane.dataIn .strobe) } } ks := by
  have h' : handByte n col.lane.dataIn
      (s.at n { col with gather := { col.gather with idleTimer := none } } js) = _ := h
  simp [latchByte, hp, h', isTerminator_at hc hk, Profile.beat]

/-- Under backpressure the byte is acknowledged once the unit has it (R86). -/
theorem latchByte_holds {u : State} {g : Gather} {ks : List Job} {w : Bool}
    (hc : s.openIn n = some c) (hk : s.inSettings c = some k) (hp : p.discipline ≠ .gated)
    (h : handByte n col.lane.dataIn (s.at n col.latching (.acknowledge n :: js)) =
      { state := u.at n { col with gather := g } ks, tests := true, waits := w }) :
    latchByte n p (s.at n col js) = u.at n { col with
      gather := g
      lane := { col.lane with
        state := .receiving, offer := false
        reference := if p.discipline = .toggle then some col.lane.ready else col.lane.reference
        receiving := some (p.beat k col.lane.dataIn .held) } } ks := by
  have h' : handByte n col.lane.dataIn (s.at n
      { col with gather := { col.gather with idleTimer := none } } (.acknowledge n :: js)) = _ := h
  simp [latchByte, hp, h', isTerminator_at hc hk, Profile.beat]

theorem acknowledge_waits (h : col.gather.waiting ≠ none) :
    acknowledge n (s.at n col js) = s.at n col js := by
  cases hr : col.lane.receiving with
  | none => simp [acknowledge, hr]
  | some x => simp [acknowledge, hr, h]

/-- An INTERLOCK byte that the unit has taken is acknowledged (R87). -/
theorem acknowledge_interlock {x : Receiving} (hr : col.lane.receiving = some x)
    (hx : x.phase = .held) (hd : x.disc = .interlock) (hw : col.gather.waiting = none)
    (hl : col.lane.ready = false) : acknowledge n (s.at n col js) =
      s.at n { col with lane := { col.lane with
        strobe := false
        receiving := some { x with
          phase := .returning
          ackTimer := if x.ackLimit = 0 then none else some x.ackLimit } } } js := by
  simp [acknowledge, hr, hx, hd, hw, hl]

/-- A TOGGLE byte that the unit has taken is acknowledged, and its beat ends (R91). -/
theorem acknowledge_toggle {x : Receiving} (hr : col.lane.receiving = some x)
    (hx : x.phase = .held) (hd : x.disc = .toggle) (hw : col.gather.waiting = none) :
    acknowledge n (s.at n col js) =
      s.at n { col with lane := { col.lane with strobe := !col.lane.strobe } } (.beatEnd n :: js) := by
  simp [acknowledge, hr, hx, hd, hw]

/-- Under backpressure a refused byte waits for the pool (R101). -/
theorem refusedByte_waits {b : HeldByte} {dd kk m : Nat} (h : col.gather.lossy = false) :
    refusedByte n b dd kk m (s.at n col js) =
      { state := (s.joinWaiting (.gather n) dd kk).at n
          { col with gather := { col.gather with waiting := some b } } js
        tests := true, waits := true } := by
  simp [refusedByte, h]

/-- Without backpressure a refused byte makes the gather LOSING, and what it held goes back (R102). -/
theorem refusedByte_loses {b : HeldByte} {dd kk m : Nat} (h : col.gather.lossy = true) :
    ∃ q ks, (q = match col.gather.state with
        | .filling _ _ bs => s.pool.put false 1 (cellsFor bs.length)
        | _ => s.pool) ∧ (ks = [] ∨ ks = [.serve]) ∧
      refusedByte n b dd kk m (s.at n col js) =
        { state := State.at { s with pool := q } n
            { col with gather := { col.gather with state := .losing m } } (ks ++ js)
          tests := true, waits := false } := by
  cases hg : col.gather.state with
  | empty => exact ⟨_, [], rfl, .inl rfl, by simp [refusedByte, h, hg]⟩
  | losing k' => exact ⟨_, [], rfl, .inl rfl, by simp [refusedByte, h, hg]⟩
  | filling c' cls bs => exact ⟨_, [.serve], rfl, .inr rfl, by simp [refusedByte, h, hg]⟩

theorem readyChanged_idleIn (hst : col.lane.state = .idleIn) (hin : col.lane.inSnap = some p) :
    readyChanged n (s.at n col js) = readyWhileTaking n p (s.at n col js) := by
  simp only [readyChanged, State.at_lane, hst, hin]

/-- Under TOGGLE the byte is latched as the lane goes on taking beats (R91). -/
theorem takeBeats_latches (hst : col.lane.state = .idleIn) (hc : s.openIn n = some c)
    (hin : col.lane.inSnap = some p) (hp : p.discipline = .toggle)
    (hr : col.lane.reference ≠ some col.lane.ready) :
    takeBeats n (s.at n col js) = latchByte n p (s.at n col js) := by
  rw [takeBeats_goes hst hc hin]
  simp [goOnTaking, hp, hr]

end latching

theorem exec_snrdyMoves {s : State} {n : Spur} {r : Bool} {d : Byte} (hs : Settled s)
    (h : (s.lane n).ready ≠ r) : exec (.snrdyChange n r d) s =
      s.act fun t => readyChanged n (t.setReady n r d) := by
  rw [exec_snrdyChange hs]
  simp only [if_neg h]

/-- The latch of a byte on a lane in IDLE_IN (R87, R89, R91): what the Gather Unit takes. -/
theorem latchedBytes_taken {s : State} {n : Spur} {d : Byte} {c : Chan} {k : InSettings} {p : Profile}
    {g : GatherState} {q : Pool} (hs : Settled s) (hst : (s.lane n).state = .idleIn)
    (hin : (s.lane n).inSnap = some p) (hc : s.openIn n = some c) (hk : s.inSettings c = some k)
    (hw : (s.gather n).waiting = none) (ht : Takes s n c k d g q) :
    let l := s.lane n
    let took : Gather := { s.gather n with state := g, idleTimer := none }
    let latched (ready : Bool) (g : Gather) (l' : Lane) : Prop :=
      exec (.snrdyChange n ready d) s = .next { s.setColumn n { s.column n with
        gather := g
        lane := { l' with ready := ready, dataIn := d, offer := false } } with pool := q }
    (p.discipline = .interlock → l.offer = true → l.ready = true → latched false took { l with
      state := .receiving, strobe := false
      receiving := some { p.beat k d .returning with
        ackTimer := if p.ackLimit = 0 then none else some p.ackLimit } }) ∧
    (p.discipline = .gated → l.ready = true → latched false took { l with
      state := .receiving, strobe := true, receiving := some (p.beat k d .strobe) }) ∧
    (p.discipline = .toggle → l.reference = some l.ready → k.ends d = false →
      took.count ≠ k.gatherCount → l.yieldDue = false → s.outWork n = false →
      latched (!l.ready) { took with idleTimer := k.idleGap } { l with
        strobe := !l.strobe, reference := some (!l.ready), receiving := none
        yieldTimer := none, workSeen := false }) := by
  intro l took latched
  let u : State := { s with pool := q }
  let moved (r : Bool) : Column := { s.column n with lane := { l with ready := r, dataIn := d } }
  let held (r : Bool) (ref : Option Bool) : Column := { s.column n with
    gather := took
    lane := { l with
      ready := r, dataIn := d, state := .receiving, offer := false, reference := ref
      receiving := some (p.beat k d .held) } }
  have hready : ∀ r, readyChanged n ((s.at n (s.column n) [.arbiter]).setReady n r d) =
      readyWhileTaking n p (s.at n (moved r) [.arbiter]) := fun r => by
    rw [State.at_setReady]
    exact readyChanged_idleIn (col := moved r) hst hin
  have hhand : ∀ r js, handByte n d (s.at n (moved r).latching js) =
      { state := u.at n { moved r with gather := took } js, tests := true, waits := false } :=
    fun r js => handByte_takes hc hk ht rfl
  refine ⟨fun hp ho hr => ?_, fun hp hr => ?_, fun hp href hends hcount hdue hwork => ?_⟩
  · have hlatch : readyWhileTaking n p (s.at n (moved false) [.arbiter]) =
        latchByte n p (s.at n (moved false) [.arbiter]) := by
      have ho' : (moved false).lane.offer = true := ho
      simp only [readyWhileTaking, hp, State.at_lane, ho']
      rfl
    have hholds := latchByte_holds (col := moved false) hc hk (by rw [hp]; decide)
      (hhand false [.acknowledge n, .arbiter])
    show exec _ s = _
    rw [exec_snrdyMoves hs (by rw [show (s.lane n).ready = true from hr]; decide)]
    refine State.act_at (k := 1) (u := u) hs ?_ (by norm_num) rfl rfl
    rw [hready, hlatch, hholds]
    rw [if_neg (by rw [hp]; decide)]
    exact .nextAt (acknowledge_interlock (s := u) (col := held false l.reference)
      (x := p.beat k d .held) rfl rfl hp hw rfl) (.of_eq rfl)
  · have hlatch : readyWhileTaking n p (s.at n (moved false) [.arbiter]) =
        latchByte n p (s.at n (moved false) [.arbiter]) := by
      simp only [readyWhileTaking, hp, State.at_lane]
      rfl
    show exec _ s = _
    rw [exec_snrdyMoves hs (by rw [show (s.lane n).ready = true from hr]; decide)]
    refine State.act_at (k := 0) (u := u) hs ?_ (by norm_num) rfl rfl
    rw [hready, hlatch, latchByte_gated (col := moved false) hc hk hp (hhand false [.arbiter])]
    exact .of_eq rfl
  · have htake : readyWhileTaking n p (s.at n (moved (!l.ready)) [.arbiter]) =
        s.at n (moved (!l.ready)) [.takeBeats n, .arbiter] := by
      simp only [readyWhileTaking, hp]
      rfl
    have hne : (moved (!l.ready)).lane.reference ≠ some (moved (!l.ready)).lane.ready := by
      show l.reference ≠ some (!l.ready)
      rw [href]
      simp
    have hholds := latchByte_holds (col := moved (!l.ready)) hc hk (by rw [hp]; decide)
      (hhand (!l.ready) [.acknowledge n, .arbiter])
    rw [if_pos hp] at hholds
    show exec _ s = _
    rw [exec_snrdyMoves hs (by simp [l])]
    refine State.act_at (k := 6) (u := u) hs ?_ (by norm_num) rfl rfl
    rw [hready, htake]
    refine .nextAt ((takeBeats_latches (by exact hst) hc (by exact hin) hp hne).trans hholds) ?_
    refine .nextAt (acknowledge_toggle (s := u) (col := held (!l.ready) (some (!l.ready)))
      (x := p.beat k d .held) rfl rfl hp hw) ?_
    obtain ⟨-, k', hl, -⟩ := State.openIn_some hc
    refine .beatRests (s := u) (col := { held (!l.ready) (some (!l.ready)) with
      lane := { (held (!l.ready) (some (!l.ready))).lane with strobe := !l.strobe } })
      (x := p.beat k d .held) hc hl hk rfl rfl rfl hdue hwork hends
      hcount ht.isPartial (.of_eq ?_)
    rw [takeBeats_goes (s := u) rfl hc (by exact hin), goOnTaking_toggle hp rfl, Column.rested, ← hst]

/-- The latch of a byte on a lane in IDLE_IN whose claim the pool refuses (R101, R102). -/
theorem latchedBytes_refused {s : State} {n : Spur} {d : Byte} {c : Chan} {k : InSettings}
    {p : Profile} {dd kk : Nat} (hs : Settled s) (hst : (s.lane n).state = .idleIn)
    (hin : (s.lane n).inSnap = some p) (hc : s.openIn n = some c) (hk : s.inSettings c = some k)
    (hr : Refuses s n k d dd kk) :
    let l := s.lane n
    let latched (ready : Bool) (q : Pool) (g : Gather) (l' : Lane) : Prop :=
      exec (.snrdyChange n ready d) s = .next { s.setColumn n { s.column n with
        gather := g
        lane := { l' with ready := ready, dataIn := d, offer := false } } with pool := q }
    let waits : Gather :=
      { s.gather n with idleTimer := none, waiting := some { byte := d, term := k.drops d } }
    let queued : Pool := { s.pool with
      waiting := [{ who := .gather n, descriptors := dd, cells := kk }] }
    (p.discipline = .interlock → l.offer = true → l.ready = true → (s.gather n).lossy = false →
      latched false queued waits { l with
        state := .receiving, receiving := some (p.beat k d .held) }) ∧
    (p.discipline = .toggle → l.reference = some l.ready → (s.gather n).lossy = false →
      latched (!l.ready) queued waits { l with
        state := .receiving, reference := some (!l.ready), receiving := some (p.beat k d .held) }) ∧
    (p.discipline = .gated → l.ready = true → (s.gather n).lossy = true →
      latched false
        (match (s.gather n).state with
          | .filling _ _ bs => s.pool.put false 1 (cellsFor bs.length)
          | _ => s.pool)
        { s.gather n with
          idleTimer := none
          state := .losing ((s.gather n).count + (if k.drops d then 0 else 1)) }
        { l with state := .receiving, strobe := true, receiving := some (p.beat k d .strobe) }) := by
  intro l latched waits queued
  let u : State := s.joinWaiting (.gather n) dd kk
  have hu : u = { s with pool := queued } := by
    simp only [u, State.joinWaiting, hs.alone, List.nil_append, queued]
  let moved (r : Bool) : Column := { s.column n with lane := { l with ready := r, dataIn := d } }
  let held (r : Bool) (ref : Option Bool) : Column := { s.column n with
    gather := waits
    lane := { l with
      ready := r, dataIn := d, state := .receiving, offer := false, reference := ref
      receiving := some (p.beat k d .held) } }
  have hready : ∀ r, readyChanged n ((s.at n (s.column n) [.arbiter]).setReady n r d) =
      readyWhileTaking n p (s.at n (moved r) [.arbiter]) := fun r => by
    rw [State.at_setReady]
    exact readyChanged_idleIn (col := moved r) hst hin
  have hhand : (s.gather n).lossy = false → ∀ r js, handByte n d (s.at n (moved r).latching js) =
      { state := u.at n { moved r with gather := waits } js, tests := true, waits := true } :=
    fun hlossy r js => (handByte_refuses (col := (moved r).latching) hc hk hr rfl).trans
      (refusedByte_waits (col := (moved r).latching) hlossy)
  have hack : ∀ r ref, acknowledge n (u.at n (held r ref) [.arbiter]) =
      u.at n (held r ref) [.arbiter] := fun r ref =>
    acknowledge_waits (s := u) (col := held r ref) (Option.some_ne_none _)
  refine ⟨fun hp ho hl hlossy => ?_, fun hp href hlossy => ?_, fun hp hl hlossy => ?_⟩
  · have hlatch : readyWhileTaking n p (s.at n (moved false) [.arbiter]) =
        latchByte n p (s.at n (moved false) [.arbiter]) := by
      have ho' : (moved false).lane.offer = true := ho
      simp only [readyWhileTaking, hp, State.at_lane, ho']
      rfl
    have hholds := latchByte_holds (col := moved false) hc hk (by rw [hp]; decide)
      (hhand hlossy false [.acknowledge n, .arbiter])
    rw [if_neg (by rw [hp]; decide)] at hholds
    have hact : s.act (fun t => readyChanged n (t.setReady n false d)) =
        .next (u.setColumn n (held false l.reference)) := by
      refine State.act_at (k := 1) hs ?_ (by norm_num) rfl rfl
      rw [hready, hlatch, hholds]
      exact .nextAt (hack false l.reference) (.refl 0 _)
    rw [hu] at hact
    exact (exec_snrdyMoves hs (by rw [show (s.lane n).ready = true from hl]; decide)).trans hact
  · have htake : readyWhileTaking n p (s.at n (moved (!l.ready)) [.arbiter]) =
        s.at n (moved (!l.ready)) [.takeBeats n, .arbiter] := by
      simp only [readyWhileTaking, hp]
      rfl
    have hne : (moved (!l.ready)).lane.reference ≠ some (moved (!l.ready)).lane.ready := by
      show l.reference ≠ some (!l.ready)
      rw [href]
      simp
    have hholds := latchByte_holds (col := moved (!l.ready)) hc hk (by rw [hp]; decide)
      (hhand hlossy (!l.ready) [.acknowledge n, .arbiter])
    rw [if_pos hp] at hholds
    have hact : s.act (fun t => readyChanged n (t.setReady n (!l.ready) d)) =
        .next (u.setColumn n (held (!l.ready) (some (!l.ready)))) := by
      refine State.act_at (k := 2) hs ?_ (by norm_num) rfl rfl
      rw [hready, htake]
      exact .nextAt ((takeBeats_latches (by exact hst) hc (by exact hin) hp hne).trans hholds)
        (.nextAt (hack (!l.ready) (some (!l.ready))) (.refl 0 _))
    rw [hu] at hact
    exact (exec_snrdyMoves hs (by simp [l])).trans hact
  · have hlatch : readyWhileTaking n p (s.at n (moved false) [.arbiter]) =
        latchByte n p (s.at n (moved false) [.arbiter]) := by
      simp only [readyWhileTaking, hp, State.at_lane]
      rfl
    obtain ⟨q, ks, hq, hks, hloses⟩ := refusedByte_loses (s := s) (n := n) (js := [.arbiter])
      (col := (moved false).latching) (b := { byte := d, term := k.drops d }) (dd := dd) (kk := kk)
      (m := (s.gather n).count + if k.drops d then 0 else 1) hlossy
    have hgated := latchByte_gated (col := moved false) hc hk hp
      ((handByte_refuses (col := (moved false).latching) hc hk hr rfl).trans hloses)
    let v : State := { s with pool := q }
    have hwait : q.waiting = [] := by
      rw [hq]
      split <;> exact hs.alone
    show exec _ s = .next { State.setColumn s n _ with pool := _ }
    rw [exec_snrdyMoves hs (by rw [show (s.lane n).ready = true from hl]; decide)]
    subst hq
    refine State.act_at (k := 1) (u := v) hs ?_ (by norm_num) rfl rfl
    rw [hready, hlatch, hgated]
    rcases hks with rfl | rfl
    · exact .of_eq rfl
    · exact .nextAt (serve_alone (by exact hwait)) (.of_eq rfl)

/-- SnRDY during an inbound beat: only a return to READY that the beat waits for does anything (R86). -/
theorem readyChanged_receiving {s : State} {n : Spur} {col : Column} {js : List Job} {x : Receiving}
    (hst : col.lane.state = .receiving) (hr : col.lane.receiving = some x) :
    readyChanged n (s.at n col js) =
      if x.phase = .returning ∧ col.lane.ready = true then s.at n col (.beatEnd n :: js)
      else s.at n col js := by
  simp only [readyChanged, State.at_lane, hst, hr]
  split <;> rfl

/-- Settles O50. -/
theorem readyLatchesAByte : Obligations.ReadyLatchesAByte := by
  unfold Obligations.ReadyLatchesAByte
  refine ⟨fun s n d c k p hs hst hin hc hk hw => ?_, fun s n d x hs hst hr => ?_⟩
  · intro l beat latched
    refine ⟨fun g q ht => latchedBytes_taken hs hst hin hc hk hw ht,
      fun dd kk hr => latchedBytes_refused hs hst hin hc hk hr, fun hp ho hr => ?_⟩
    let moved : Column := { s.column n with lane := { l with ready := true, dataIn := d } }
    have hready : readyChanged n ((s.at n (s.column n) [.arbiter]).setReady n true d) =
        s.at n moved [.takeBeats n, .arbiter] := by
      rw [State.at_setReady]
      refine (readyChanged_idleIn (col := moved) hst hin).trans ?_
      simp only [readyWhileTaking, hp, State.at_lane]
      rfl
    rw [exec_snrdyMoves hs (by rw [show (s.lane n).ready = false from hr]; decide)]
    refine State.act_at (k := 1) (u := s) (col := moved.offering) hs ?_ (by norm_num) rfl rfl
    rw [hready]
    refine .nextAt (u := s.at n moved.offering [.arbiter]) ?_ (.refl 0 _)
    show takeBeats n (s.at n moved [.arbiter]) = _
    rw [takeBeats_goes (by exact hst) hc (by exact hin), goOnTaking_offers hp rfl (by exact ho)]
  · intro ln
    refine ⟨fun r hquiet => ?_,
      fun c k p l hph hready hoff ht hin hp hdue hwork hc hl hk => ?_⟩
    · let moved : Column := { s.column n with lane := { ln with ready := r, dataIn := d } }
      have hlevels : readyChanged n (s.at n moved [.arbiter]) = s.at n moved [.arbiter] := by
        rw [readyChanged_receiving (col := moved) hst hr]
        refine if_neg ?_
        rintro ⟨h1, h2⟩
        exact hquiet.elim (fun h => h h1) fun h => absurd (h.symm.trans h2) (by decide)
      rw [exec_snrdyChange hs]
      refine State.act_at (k := 0) (u := s) (col := moved) hs ?_ (by norm_num) rfl rfl
      rw [State.at_setReady]
      split
      · exact .refl 0 _
      · exact .of_eq hlevels
    · intro closed
      let moved : Column := { s.column n with lane := { ln with ready := true, dataIn := d } }
      let f : State → State := fun t => readyChanged n (t.setReady n true d)
      have hact : exec (.snrdyChange n true d) s = s.act f :=
        exec_snrdyMoves hs (by rw [show (s.lane n).ready = false from hready]; decide)
      have hf : f (s.at n (s.column n) [.arbiter]) = s.at n moved [.beatEnd n, .arbiter] := by
        show readyChanged n (State.setReady _ _ _ _) = _
        rw [State.at_setReady]
        exact (readyChanged_receiving (col := moved) hst hr).trans (if_pos ⟨hph, rfl⟩)
      have hclosing := fun hrec (hp' : (s.inProfile c).discipline = .interlock) =>
        act_closesBeat (col := moved) (last := (moved.handed (s.inProfile c)).offering) hs
          hf hc hl hk hr ht hst hdue hwork hrec hin (hp'.trans hp.symm) fun u hm => by
            rw [takeBeats_goes rfl ((hm.openIn n).trans hc) rfl]
            exact goOnTaking_offers (col := moved.handed (s.inProfile c)) hp' rfl hoff
      have hcolumn : ∀ u : State,
          ((u.setColumn n (moved.handed (s.inProfile c)).offering).gather n).state = .empty ∧
          ((u.setColumn n (moved.handed (s.inProfile c)).offering).gather n).idleTimer = none ∧
          ((u.setColumn n (moved.handed (s.inProfile c)).offering).lane n) =
            (moved.handed (s.inProfile c)).offering.lane := by
        intro u
        rw [State.gather, State.lane, State.column_setColumn]
        exact ⟨rfl, rfl, rfl⟩
      have hclosed : ∀ u : State,
          s.act f = .next (u.setColumn n (moved.handed (s.inProfile c)).offering) →
          closed (u.setColumn n (moved.handed (s.inProfile c)).offering) := by
        intro u hu
        obtain ⟨hg, hi, hlane⟩ := hcolumn u
        refine ⟨hact.trans hu, hg, hi, ?_⟩
        rw [hlane]
        exact ⟨rfl, rfl, rfl, rfl, rfl⟩
      refine ⟨fun hterm hg hcount => ?_, fun cls bs hg hend hrec hhome hp' => ?_,
        fun m hg hend hrec hhome hp' => ?_⟩
      · rw [hact]
        refine State.act_at (k := 4) (u := s) (col := (moved.rested k.idleGap).offering) hs ?_
          (by norm_num) rfl rfl
        rw [hf]
        refine .beatRests (col := moved) hc hl hk hr ht hst hdue hwork hterm hcount hg (.of_eq ?_)
        rw [takeBeats_goes rfl hc (by exact hin), goOnTaking_offers hp rfl (by exact hoff)]
      · exact ⟨_, hclosed _ ((hclosing hrec hp').1 cls bs hg hend),
          (forwarded_forwards hl (.inr hrec)).1.setColumn n _⟩
      · have hcloses := (hclosing hrec hp').2 m hg hend
        rw [State.overran_now hrec] at hcloses
        exact ⟨_, hclosed _ hcloses, State.overran_frame hl m n _⟩

end Sys2Proof.Machine
end

section
/-! Outbound parcels (04, sections 4.3 and 4.6; 03, sections 3.3 to 3.5): the beats of a parcel, its
completion, and the lane's decision at its end. -/

namespace Sys2Proof.Machine

-- the proofs are elaborated one after another: all at once they ask for too many threads
set_option Elab.async false

/-! ### The beats of a parcel (R80 to R84) -/

/-- A lane on which a beat of the parcel of x goes on, with all else that a decision looks at as it was. -/
structure Lane.Beats (l l' : Lane) (x : Sending) : Prop where
  sending : ∃ x', l'.sending = some x' ∧ x'.parcel = x.parcel ∧ x'.done = x.done ∧ x'.snap = x.snap
  state : l'.state = l.state
  owed : l'.yieldOwed = l.yieldOwed

section beats
variable {s : State} {n : Spur} {col : Column} {js : List Job} {x : Sending}

theorem strobeAction_offers (h : x.snap.discipline = .interlock) (hr : col.lane.ready = true) :
    strobeAction n x (s.at n col js) = s.at n { col with lane := { col.lane with
      strobe := true, sending := some { x with phase := .waitBusy } } } js := by
  simp only [strobeAction, h, State.at_lane, if_pos hr, State.at_setLane]

theorem strobeAction_taken (h : x.snap.discipline = .interlock) (hr : col.lane.ready = false) :
    strobeAction n x (s.at n col js) = s.at n { col with lane := { col.lane with
      strobe := false, sending := some { x with phase := .waitReturn } } } js := by
  simp only [strobeAction, h, State.at_lane, if_neg (Bool.eq_false_iff.mp hr), State.at_setLane]

theorem strobeAction_gated (h : x.snap.discipline = .gated) :
    strobeAction n x (s.at n col js) = s.at n { col with lane := { col.lane with
      strobe := true, sending := some { x with phase := .strobe } } } js := by
  simp only [strobeAction, h, State.at_lane, State.at_setLane]

theorem strobeAction_paced (h : x.snap.discipline = .paced) :
    strobeAction n x (s.at n col js) = s.at n { col with lane := { col.lane with
      strobe := true, sending := some { x with phase := .pulse true true } } } js := by
  simp only [strobeAction, h, State.at_lane, State.at_setLane]

theorem strobeAction_toggle (h : x.snap.discipline = .toggle) :
    strobeAction n x (s.at n col js) = s.at n { col with lane := { col.lane with
      strobe := !col.lane.strobe, reference := some col.lane.ready
      sending := some { x with phase := .waitToggle } } } js := by
  simp only [strobeAction, h, State.at_lane, State.at_setLane]

theorem strobeAction_beats (s : State) (n : Spur) (col : Column) (js : List Job) (x : Sending) :
    ∃ l', strobeAction n x (s.at n col js) = s.at n { col with lane := l' } js ∧
      col.lane.Beats l' x := by
  cases hd : x.snap.discipline with
  | interlock =>
    cases hr : col.lane.ready with
    | true => exact ⟨_, strobeAction_offers hd hr, ⟨⟨_, rfl, rfl, rfl, rfl⟩, rfl, rfl⟩⟩
    | false => exact ⟨_, strobeAction_taken hd hr, ⟨⟨_, rfl, rfl, rfl, rfl⟩, rfl, rfl⟩⟩
  | gated => exact ⟨_, strobeAction_gated hd, ⟨⟨_, rfl, rfl, rfl, rfl⟩, rfl, rfl⟩⟩
  | paced => exact ⟨_, strobeAction_paced hd, ⟨⟨_, rfl, rfl, rfl, rfl⟩, rfl, rfl⟩⟩
  | toggle => exact ⟨_, strobeAction_toggle hd, ⟨⟨_, rfl, rfl, rfl, rfl⟩, rfl, rfl⟩⟩

theorem presentByte_at (h : x.snap.setup ≠ 0) : presentByte n x (s.at n col js) =
    s.at n { col with lane := { col.lane with
      drive := some x.byte
      sending := some { x with
        phase := .setup
        ackTimer := if x.snap.discipline = .gated then none else x.ackTimer } } } js := by
  simp only [presentByte, if_neg h, State.at_lane, State.at_setLane]
  split <;> rfl

theorem presentByte_beats (s : State) (n : Spur) (col : Column) (js : List Job) (x : Sending) :
    ∃ l', presentByte n x (s.at n col js) = s.at n { col with lane := l' } js ∧
      col.lane.Beats l' x := by
  by_cases h : x.snap.setup = 0
  · let x1 : Sending := if x.snap.discipline = .gated then { x with ackTimer := none } else x
    let l1 : Lane := { col.lane with drive := some x.byte, sending := some { x1 with phase := .setup } }
    have hx1 : x1.parcel = x.parcel ∧ x1.done = x.done ∧ x1.snap = x.snap := by
      by_cases hg : x.snap.discipline = .gated
      · simp only [x1, if_pos hg, and_self]
      · simp only [x1, if_neg hg, and_self]
    obtain ⟨l', heq, hb⟩ := strobeAction_beats s n { col with lane := l1 } js x1
    obtain ⟨⟨x', hx', hp, hd, hsn⟩, hst, ho⟩ := hb
    refine ⟨l', ?_, ⟨⟨x', hx', hp.trans hx1.1, hd.trans hx1.2.1, hsn.trans hx1.2.2⟩, hst, ho⟩⟩
    simp only [presentByte, if_pos h, State.at_lane, State.at_setLane]
    exact heq
  · exact ⟨_, presentByte_at h, ⟨⟨_, rfl, rfl, rfl, rfl⟩, rfl, rfl⟩⟩

/-- The parcel's next beat as it begins, under its ack limit (R80, R83). -/
def Sending.begun (x : Sending) : Sending :=
  { x with
    phase := .waitReady
    ackTimer := if x.snap.ackLimit ≠ 0 ∧ x.snap.discipline ≠ .paced then some x.snap.ackLimit
      else none }

theorem beginBeat_presents (h : x.snap.discipline = .paced ∨ x.snap.discipline = .toggle ∨
    col.lane.ready = true) : beginBeat n x (s.at n col js) = presentByte n x.begun (s.at n col js) := by
  cases hd : x.snap.discipline with
  | interlock =>
    have hr : col.lane.ready = true := by simpa [hd] using h
    simp only [beginBeat, hd, State.at_lane, hr, if_true, Sending.begun]
  | gated =>
    have hr : col.lane.ready = true := by simpa [hd] using h
    simp only [beginBeat, hd, State.at_lane, hr, if_true, Sending.begun]
  | paced => simp only [beginBeat, hd, Sending.begun]
  | toggle => simp only [beginBeat, hd, Sending.begun]

theorem beginBeat_waits (h : x.snap.discipline = .interlock ∨ x.snap.discipline = .gated)
    (hr : col.lane.ready = false) : beginBeat n x (s.at n col js) =
      s.at n { col with lane := { col.lane with sending := some x.begun } } js := by
  rcases h with h | h <;> simp [beginBeat, h, hr, Sending.begun]

theorem beginBeat_beats (s : State) (n : Spur) (col : Column) (js : List Job) (x : Sending) :
    ∃ l', beginBeat n x (s.at n col js) = s.at n { col with lane := l' } js ∧ col.lane.Beats l' x := by
  by_cases h : x.snap.discipline = .paced ∨ x.snap.discipline = .toggle ∨ col.lane.ready = true
  · rw [beginBeat_presents h]
    obtain ⟨l', heq, hb⟩ := presentByte_beats s n col js x.begun
    exact ⟨l', heq, ⟨hb.sending, hb.state, hb.owed⟩⟩
  · have hwait : (x.snap.discipline = .interlock ∨ x.snap.discipline = .gated) ∧
        col.lane.ready = false := by
      cases hd : x.snap.discipline <;> simp_all
    exact ⟨_, beginBeat_waits hwait.1 hwait.2, ⟨⟨_, rfl, rfl, rfl, rfl⟩, rfl, rfl⟩⟩

theorem firstBeat_beats (s : State) (n : Spur) (col : Column) (js : List Job) (x : Sending) :
    ∃ l', firstBeat n x (s.at n col js) = s.at n { col with lane := l' } js ∧ col.lane.Beats l' x := by
  let l1 : Lane := { col.lane with
    strobe := if x.snap.discipline = .toggle then col.lane.strobe else false }
  obtain ⟨l', heq, hb⟩ := beginBeat_beats s n { col with lane := l1 } js x
  refine ⟨l', ?_, ⟨hb.sending, hb.state, hb.owed⟩⟩
  simp only [firstBeat, State.at_lane, State.at_setLane]
  exact heq

theorem beatComplete_more (h : x.done + 1 < x.parcel.body.length) :
    beatComplete n x (s.at n col js) = beginBeat n { x with done := x.done + 1, ackTimer := none }
      (s.at n { col with lane := { col.lane with
        reference := if x.snap.discipline = .toggle then none else col.lane.reference } } js) := by
  simp only [beatComplete, State.at_lane, State.at_setLane, if_pos h]

theorem beatComplete_last (h : x.done + 1 = x.parcel.body.length) :
    beatComplete n x (s.at n col js) = completeParcel n x.parcel
      (s.at n { col with lane := { col.lane with
        reference := if x.snap.discipline = .toggle then none else col.lane.reference } } js) := by
  simp only [beatComplete, State.at_lane, State.at_setLane, if_neg h.not_lt]

/-- A beat completes and the next one presents its byte at once (R57, R80). -/
theorem beatComplete_presents (hmore : x.done + 1 < x.parcel.body.length) (hs : x.snap.setup ≠ 0)
    (hb : x.snap.discipline = .paced ∨ x.snap.discipline = .toggle ∨ col.lane.ready = true) :
    beatComplete n x (s.at n col js) = s.at n { col with lane := { col.lane with
      reference := if x.snap.discipline = .toggle then none else col.lane.reference
      drive := some (x.parcel.body.getD (x.done + 1) 0)
      sending := some { x with
        done := x.done + 1, phase := .setup
        ackTimer := if x.snap.discipline = .gated then none
          else if x.snap.ackLimit ≠ 0 ∧ x.snap.discipline ≠ .paced then some x.snap.ackLimit
          else none } } } js := by
  let x1 : Sending := { x with done := x.done + 1, ackTimer := none }
  rw [beatComplete_more hmore]
  refine (beginBeat_presents (x := x1) (by exact hb)).trans ?_
  exact presentByte_at (x := x1.begun) hs

end beats

/-! ### The oldest serviceable entry (R55) -/

theorem takeFirst_none {test : Outbound → Bool} {q : List Outbound} (h : q.any test = false) :
    takeFirst test q = none := by
  induction q with
  | nil => rfl
  | cons e rest ih =>
    obtain ⟨he, hrest⟩ := Bool.or_eq_false_iff.mp h
    simp [takeFirst, he, ih hrest]

theorem takeFirst_past {test : Outbound → Bool} {held rest : List Outbound} {e : Outbound}
    (hh : ∀ y ∈ held, test y = false) (he : test e = true) :
    takeFirst test (held ++ e :: rest) = some (e, held ++ rest) := by
  induction held with
  | nil => simp [takeFirst, he]
  | cons y held ih =>
    have hrest := ih fun z hz => hh z (List.mem_cons_of_mem _ hz)
    simp [takeFirst, hh y List.mem_cons_self, hrest]

/-- A queue with outbound work has an oldest serviceable entry, past the held ones. -/
theorem exists_oldest {test : Outbound → Bool} {q : List Outbound} (h : q.any test = true) :
    ∃ held e rest, q = held ++ e :: rest ∧ (∀ y ∈ held, test y = false) ∧ test e = true := by
  induction q with
  | nil => cases h
  | cons e rest ih =>
    cases he : test e with
    | true => exact ⟨[], e, rest, rfl, List.forall_mem_nil _, he⟩
    | false =>
      obtain ⟨held, e', rest', rfl, hh, he'⟩ := ih (by simpa [he] using h)
      refine ⟨e :: held, e', rest', rfl, fun y hy => ?_, he'⟩
      rcases List.mem_cons.mp hy with rfl | hy
      · exact he
      · exact hh y hy

/-! ### The decision at the end of a parcel (R72) -/

/-- An asserted attention that the lane heeds (R72 case 1). -/
def State.heeds (s : State) (n : Spur) (l : Lane) : Bool :=
  l.atn && decide (l.config.attention = .honor) && (s.openIn n).isSome && !l.yieldOwed

/-- What the decision in IDLE_OUT leaves, where no serviceable entry that waits is of length 0 (R72, R55). -/
structure Decided (s : State) (n : Spur) (col col' : Column) : Prop where
  gather : col'.gather = col.gather
  heeded : s.heeds n col.lane = true →
    col'.lane.state = .turnIn ∧ col'.lane.sending = none ∧ col'.queue = col.queue
  unowed : s.heeds n col.lane = false → col'.lane.yieldOwed = false
  inward : s.heeds n col.lane = false → col.queue.any s.serviceable = false →
    col.lane.config.home = .inward →
    col'.lane.state = .turnIn ∧ col'.lane.sending = none ∧ col'.queue = col.queue
  outward : s.heeds n col.lane = false → col.queue.any s.serviceable = false →
    col.lane.config.home = .outward → col' = { col with lane := { col.lane with yieldOwed := false } }
  oldest : s.heeds n col.lane = false → ∀ held e rest, col.queue = held ++ e :: rest →
    (∀ y ∈ held, s.serviceable y = false) → s.serviceable e = true →
    col'.queue = held ++ rest ∧ col'.lane.state = .sending ∧
      ∃ x, col'.lane.sending = some x ∧ x.parcel = e ∧ x.done = 0 ∧ x.snap = s.inProfile e.chan

theorem Lane.synced_frame (l : Lane) (work : Bool) :
    (l.synced work).state = l.state ∧ (l.synced work).sending = l.sending ∧
      (l.synced work).yieldOwed = l.yieldOwed := by
  unfold Lane.synced
  split
  · split <;> exact ⟨rfl, rfl, rfl⟩
  · exact ⟨rfl, rfl, rfl⟩

section decisions
variable {s : State} {n : Spur} {col : Column} {js : List Job}

theorem heeds_at : ((s.at n col js).attentionHeard n && !col.lane.yieldOwed) = s.heeds n col.lane := by
  rw [State.at_attentionHeard]
  rfl

theorem decideOut_heeds (h : s.heeds n col.lane = true) : decideOut n (s.at n col js) =
    s.at n { col with lane := (col.lane.turning .turnIn).synced (col.queue.any s.serviceable) } js := by
  simp only [decideOut, State.at_lane, heeds_at, h, if_true, turnIn_at]

theorem decideOut_idles (h : s.heeds n col.lane = false) (hq : col.queue.any s.serviceable = false) :
    decideOut n (s.at n col js) =
      if col.lane.config.home = .inward then
        s.at n { col with
          lane := ({ col.lane with yieldOwed := false }.turning .turnIn).synced false } js
      else s.at n { col with lane := { col.lane with yieldOwed := false } } js := by
  have hnone : takeFirst s.serviceable col.queue = none := takeFirst_none hq
  simp only [decideOut, State.at_lane, heeds_at, h, State.at_setLane, State.at_serviceable,
    State.at_queue, hnone, turnIn_at, hq]
  rfl

theorem decideOut_takes (h : s.heeds n col.lane = false) {held rest : List Outbound} {e : Outbound}
    (hq : col.queue = held ++ e :: rest) (hh : ∀ y ∈ held, s.serviceable y = false)
    (he : s.serviceable e = true) : decideOut n (s.at n col js) =
      startParcel n e (s.at n { col with
        queue := held ++ rest
        lane := { col.lane with
          yieldOwed := false, workSeen := (held ++ rest).any s.serviceable } } js) := by
  have htake : takeFirst s.serviceable col.queue = some (e, held ++ rest) := hq ▸ takeFirst_past hh he
  simp only [decideOut, State.at_lane, heeds_at, h, State.at_setLane, State.at_serviceable,
    State.at_queue, htake, State.at_setQueue, State.at_outWork]
  rfl

theorem startParcel_begins {e : Outbound} (he : e.body ≠ []) :
    ∃ l', startParcel n e (s.at n col js) = s.at n { col with lane := l' } js ∧
      l'.state = .sending ∧ l'.yieldOwed = col.lane.yieldOwed ∧
      ∃ x, l'.sending = some x ∧ x.parcel = e ∧ x.done = 0 ∧ x.snap = s.inProfile e.chan := by
  obtain ⟨l', heq, ⟨x, hx, hp, hd, hsn⟩, hst, ho⟩ := firstBeat_beats s n
    { col with lane := { col.lane with state := .sending } } js
    { parcel := e, snap := s.inProfile e.chan, done := 0, phase := .waitReady, ackTimer := none }
  refine ⟨l', ?_, hst, ho, x, hx, hp, hd, hsn⟩
  rw [← heq]
  simp only [startParcel, State.at_lane, State.at_setLane, if_neg he]
  rfl

/-- The decision in IDLE_OUT (R72). -/
theorem decideOut_decided (hs : col.lane.sending = none)
    (hb : ∀ e ∈ col.queue, s.serviceable e = true → e.body ≠ []) :
    ∃ col', decideOut n (s.at n col js) = s.at n col' js ∧ Decided s n col col' := by
  cases hh : s.heeds n col.lane with
  | true =>
    obtain ⟨hst, hsend, -⟩ := Lane.synced_frame (col.lane.turning .turnIn)
      (col.queue.any s.serviceable)
    exact ⟨_, decideOut_heeds hh,
      { gather := rfl
        heeded := fun _ => ⟨hst, hsend.trans hs, rfl⟩
        unowed := fun h => by simp [hh] at h
        inward := fun h => by simp [hh] at h
        outward := fun h => by simp [hh] at h
        oldest := fun h => by simp [hh] at h }⟩
  | false =>
    cases hq : col.queue.any s.serviceable with
    | false =>
      have hnone : ∀ held e rest, col.queue = held ++ e :: rest → ¬ s.serviceable e = true := by
        intro held e rest hqueue he
        rw [hqueue, List.any_append, List.any_cons, he] at hq
        simp at hq
      by_cases hhome : col.lane.config.home = .inward
      · obtain ⟨hst, hsend, howed⟩ := Lane.synced_frame
          ({ col.lane with yieldOwed := false }.turning .turnIn) false
        exact ⟨_, (decideOut_idles hh hq).trans (if_pos hhome),
          { gather := rfl
            heeded := fun h => by simp [hh] at h
            unowed := fun _ => howed
            inward := fun _ _ _ => ⟨hst, hsend.trans hs, rfl⟩
            outward := fun _ _ h => by rw [hhome] at h; cases h
            oldest := fun _ held e rest hqueue _ he => absurd he (hnone held e rest hqueue) }⟩
      · exact ⟨_, (decideOut_idles hh hq).trans (if_neg hhome),
          { gather := rfl
            heeded := fun h => by simp [hh] at h
            unowed := fun _ => rfl
            inward := fun _ _ h => absurd h hhome
            outward := fun _ _ _ => rfl
            oldest := fun _ held e rest hqueue _ he => absurd he (hnone held e rest hqueue) }⟩
    | true =>
      obtain ⟨held, e, rest, hqueue, hheld, he⟩ := exists_oldest hq
      have hbody := hb e (by rw [hqueue]; simp) he
      obtain ⟨l', heq, hst, ho, hx⟩ := startParcel_begins (s := s) (n := n) (js := js)
        (col := { col with
          queue := held ++ rest
          lane := { col.lane with
            yieldOwed := false, workSeen := (held ++ rest).any s.serviceable } }) hbody
      have htake : takeFirst s.serviceable col.queue = some (e, held ++ rest) :=
        hqueue ▸ takeFirst_past hheld he
      refine ⟨_, (decideOut_takes hh hqueue hheld he).trans heq,
        { gather := rfl
          heeded := fun h => by simp [hh] at h
          unowed := fun _ => ho
          inward := fun _ h => by simp [hq] at h
          outward := fun _ h => by simp [hq] at h
          oldest := fun _ held' e' rest' hq' hh' he' => ?_ }⟩
      have hsame := Option.some.inj (htake.symm.trans (hq' ▸ takeFirst_past hh' he'))
      obtain ⟨rfl, hrest⟩ := Prod.mk.inj hsame
      exact ⟨hrest, hst, hx⟩

/-- The end of a parcel: IDLE_OUT and its decision (R72). -/
theorem parcelEnd_decided (hst : col.lane.state = .sending) (hs : col.lane.sending = none)
    (hb : ∀ e ∈ col.queue, s.serviceable e = true → e.body ≠ []) :
    ∃ col', parcelEnd n (s.at n col js) = s.at n col' js ∧ Decided s n { col with
      lane := { col.lane with state := .idleOut, workSeen := col.queue.any s.serviceable } } col' := by
  obtain ⟨col', heq, hd⟩ := decideOut_decided (s := s) (n := n) (js := js) (col := { col with
    lane := { col.lane with state := .idleOut, workSeen := col.queue.any s.serviceable } }) hs hb
  refine ⟨col', ?_, hd⟩
  rw [← heq, ← enterIdle_at]
  simp only [parcelEnd, State.at_lane]
  exact if_pos ⟨hst, hs⟩

end decisions

/-- The decision, stated of the state before the act: where the map says the same of the spur's queue, of its
attention and of its entries' profiles. -/
theorem Decided.endOfParcel {s u : State} {n : Spur} {col col' : Column} (h : Decided u n col col')
    (hst : col.lane.state = .idleOut) (hsend : col.lane.sending = none) (hq : col.queue = s.queue n)
    (hl : col.lane.atn = (s.lane n).atn ∧ col.lane.config = (s.lane n).config ∧
      col.lane.yieldOwed = (s.lane n).yieldOwed)
    (hi : u.openIn n = s.openIn n)
    (hm : ∀ e ∈ s.queue n, u.serviceable e = s.serviceable e ∧ u.inProfile e.chan = s.inProfile e.chan) :
    EndOfParcel s (u.setColumn n col') n := by
  obtain ⟨hatn, hconfig, howed⟩ := hl
  have hheeds : u.heeds n col.lane = (s.attentionHeard n && !(s.lane n).yieldOwed) := by
    rw [State.heeds, hatn, hconfig, howed, hi]
    rfl
  have hlane : (u.setColumn n col').lane n = col'.lane := by rw [State.lane, State.column_setColumn]
  have hqueue : (u.setColumn n col').queue n = col'.queue := by
    rw [State.queue, State.column_setColumn]
  have hheed : s.attentionHeard n = true → (s.lane n).yieldOwed = false →
      u.heeds n col.lane = true := fun h1 h2 => by rw [hheeds, h1, h2]; rfl
  have hfree : s.attentionHeard n = false ∨ (s.lane n).yieldOwed = true →
      u.heeds n col.lane = false := by
    rw [hheeds]
    rintro (h | h) <;> simp [h]
  have hwork : s.outWork n = false → col.queue.any u.serviceable = false := by
    intro hw
    rw [hq, List.any_eq_false]
    intro e he
    rw [(hm e he).1]
    exact List.any_eq_false.mp hw e he
  unfold EndOfParcel
  rw [hlane, hqueue, ← hq]
  refine ⟨fun h1 h2 => h.heeded (hheed h1 h2), fun hf => ⟨h.unowed (hfree hf), fun hw => ⟨fun hhome => ?_,
    fun hhome => ?_⟩, fun held e rest hqe hh he => ?_⟩⟩
  · exact h.inward (hfree hf) (hwork hw) (hconfig ▸ hhome)
  · rw [h.outward (hfree hf) (hwork hw) (hconfig ▸ hhome)]
    exact ⟨hst, hsend, rfl⟩
  · have hmem : ∀ y ∈ s.queue n, u.serviceable y = s.serviceable y := fun y hy => (hm y hy).1
    have hqe' : s.queue n = held ++ e :: rest := hq.symm.trans hqe
    obtain ⟨h1, h2, x, hx, hp, hd, hsnap⟩ := h.oldest (hfree hf) held e rest hqe
      (fun y hy => (hmem y (by rw [hqe']; simp [hy])).trans (hh y hy))
      ((hmem e (by rw [hqe']; simp)).trans he)
    refine ⟨h1, h2, x, hx, hp, hd, fun k hk => ?_⟩
    rw [hsnap, (hm e (by rw [hqe']; simp)).2, State.inProfile, hk]

/-! ### Completion (R34, R57 to R60) -/

/-- The state after the counts of a completed parcel, with its storage given back (R34, R59, R60). -/
def State.completed (s : State) (e : Outbound) : State :=
  let u := if e.origin = .host then s.countOff e.chan true else s
  let v := (u.countParcel e.chan e.body.length).countDrain e.chan 1 0
  { v with pool := v.pool.put false 1 (cellsFor e.body.length) }

section completing
variable (s : State) (n : Spur) (col : Column) (js : List Job)

theorem countOff_at (c : Chan) (b : Bool) :
    (s.at n col js).countOff c b = (s.countOff c b).at n col js := by
  cases hl : s.link c with
  | none => simp only [State.countOff, State.at_link, hl]
  | some l =>
    cases hd : l.dir with
    | inbound i => simp only [State.countOff, State.at_link, hl, hd]
    | outbound limit k =>
      cases k with
      | zero => simp only [State.countOff, State.at_link, hl, hd]
      | succ k =>
        simp only [State.countOff, State.at_link, hl, hd, State.at_setLink]
        split <;> rfl

theorem countDrain_at (c : Chan) (a b : Nat) :
    (s.at n col js).countDrain c a b = (s.countDrain c a b).at n col js := by
  cases hl : s.link c with
  | none => simp only [State.countDrain, State.at_link, hl]
  | some l =>
    cases hp : l.phase <;> simp only [State.countDrain, State.at_link, hl, hp, State.at_setLink]

theorem setPhase_at (c : Chan) (ph : Phase) :
    (s.at n col js).setPhase c ph = (s.setPhase c ph).at n col js := by
  cases hl : s.link c with
  | none => simp only [State.setPhase, State.at_link, hl]
  | some l => simp only [State.setPhase, State.at_link, hl, State.at_setLink]

/-- A parcel that completes, but for a zero-length entry of an endless playback, leads to its drain test and
to the lane's decision (R59, R60). -/
theorem completeParcel_at {e : Outbound} (he : e.body ≠ [] ∨ e.origin = .host) :
    completeParcel n e (s.at n col js) = (s.completed e).at n
      { col with lane := { col.lane with sending := none } }
      (.serve :: (tellJobs e ++ .drainTest e.chan :: .parcelEnd n :: js)) := by
  have hend : ∀ u : State, ¬ (e.body = [] ∧ u.endless e = true) := by
    rintro u ⟨hb, hend⟩
    rcases he with he | he
    · exact he hb
    · simp [State.endless, he] at hend
  simp only [completeParcel, if_neg (hend _), State.at_lane, State.at_setLane, State.completed]
  split <;> simp only [countOff_at, State.at_countParcel, countDrain_at, State.at_push,
    State.at_giveBack, List.append_assoc, List.cons_append, List.nil_append]

end completing

/-! ### The events that carry a beat on (R81 to R84) -/

section events
variable {s : State} {n : Spur} {col : Column} {js : List Job} {x : Sending}

theorem readyChanged_sending (hst : col.lane.state = .sending) (hx : col.lane.sending = some x) :
    readyChanged n (s.at n col js) = readyWhileSending n x (s.at n col js) := by
  simp only [readyChanged, State.at_lane, hst, hx]

theorem readyWhileSending_presents (hp : x.phase = .waitReady) (hr : col.lane.ready = true) :
    readyWhileSending n x (s.at n col js) = presentByte n x (s.at n col js) := by
  simp only [readyWhileSending, hp, State.at_lane, if_pos hr]

theorem readyWhileSending_taken (hp : x.phase = .waitBusy) (hr : col.lane.ready = false) :
    readyWhileSending n x (s.at n col js) = s.at n { col with lane := { col.lane with
      strobe := false, sending := some { x with phase := .waitReturn } } } js := by
  simp only [readyWhileSending, hp, State.at_lane, if_neg (Bool.eq_false_iff.mp hr), State.at_setLane]

theorem readyWhileSending_returns (hp : x.phase = .waitReturn) (hr : col.lane.ready = true) :
    readyWhileSending n x (s.at n col js) = beatComplete n x (s.at n col js) := by
  simp only [readyWhileSending, hp, State.at_lane, if_pos hr]

theorem readyWhileSending_toggles (hp : x.phase = .waitToggle)
    (hr : col.lane.reference ≠ some col.lane.ready) :
    readyWhileSending n x (s.at n col js) = beatComplete n x (s.at n col js) := by
  simp only [readyWhileSending, hp, State.at_lane, if_neg hr]

theorem strobeElapsed_sending (hx : col.lane.sending = some x)
    (hp : x.phase = .strobe ∨ x.phase = .pulse true false) : strobeElapsed n (s.at n col js) =
      beatComplete n x (s.at n { col with lane := { col.lane with strobe := false } } js) := by
  rcases hp with hp | hp <;>
    simp only [strobeElapsed, State.at_lane, hx, strobeElapsedOut, hp, State.at_setLane]

theorem strobeElapsed_pulse (hx : col.lane.sending = some x) (hp : x.phase = .pulse true true) :
    strobeElapsed n (s.at n col js) = s.at n { col with lane := { col.lane with
      strobe := false, sending := some { x with phase := .pulse false true } } } js := by
  simp only [strobeElapsed, State.at_lane, hx, strobeElapsedOut, hp, State.at_setLane,
    State.at_setSending]

theorem pacingElapsed_sending (hx : col.lane.sending = some x) (hp : x.phase = .pulse false true) :
    pacingElapsed n (s.at n col js) = beatComplete n x (s.at n col js) := by
  simp only [pacingElapsed, State.at_lane, hx, hp]

theorem pacingElapsed_pulse (hx : col.lane.sending = some x) (hp : x.phase = .pulse true true) :
    pacingElapsed n (s.at n col js) = s.at n { col with lane := { col.lane with
      sending := some { x with phase := .pulse true false } } } js := by
  simp only [pacingElapsed, State.at_lane, hx, hp, State.at_setSending]

end events

/-- The command that ends the last beat completes the parcel (R57). -/
theorem exec_lastBeat {s : State} {n : Spur} {x : Sending} {c : Instr} (hs : Settled s)
    (h : LastBeatEnds s n x c) : ∃ f l', exec c s = s.act f ∧
      f (s.at n (s.column n) [.arbiter]) =
        completeParcel n x.parcel (s.at n { s.column n with lane := l' } [.arbiter]) ∧
      l'.state = .sending ∧ l'.atn = (s.lane n).atn ∧ l'.config = (s.lane n).config ∧
      l'.yieldOwed = (s.lane n).yieldOwed ∧ l'.receiving = (s.lane n).receiving := by
  obtain ⟨hst, hx, hlast, hd⟩ := h
  let l := s.lane n
  let ref (l : Lane) : Option Bool := if x.snap.discipline = .toggle then none else l.reference
  cases hdisc : x.snap.discipline with
  | interlock =>
    rw [hdisc] at hd
    obtain ⟨hp, hr, d, rfl⟩ := hd
    refine ⟨_, { l with ready := true, dataIn := d, reference := ref l },
      exec_snrdyMoves hs (by rw [hr]; decide), ?_, hst, rfl, rfl, rfl, rfl⟩
    rw [State.at_setReady, readyChanged_sending (x := x) (by exact hst) (by exact hx),
      readyWhileSending_returns hp rfl, beatComplete_last hlast]
    rfl
  | gated =>
    rw [hdisc] at hd
    obtain ⟨hp, d, rfl⟩ := hd
    refine ⟨_, { l with dataIn := d, strobe := false, reference := ref l },
      exec_strobeWidthElapsed hs d, ?_, hst, rfl, rfl, rfl, rfl⟩
    rw [State.at_setDataIn, strobeElapsed_sending (x := x) (by exact hx) (.inl hp),
      beatComplete_last hlast]
    rfl
  | paced =>
    rw [hdisc] at hd
    rcases hd with ⟨hp, d, rfl⟩ | ⟨hp, rfl⟩
    · refine ⟨_, { l with dataIn := d, strobe := false, reference := ref l },
        exec_strobeWidthElapsed hs d, ?_, hst, rfl, rfl, rfl, rfl⟩
      rw [State.at_setDataIn, strobeElapsed_sending (x := x) (by exact hx) (.inr hp),
        beatComplete_last hlast]
      rfl
    · refine ⟨pacingElapsed n, { l with reference := ref l }, rfl, ?_, hst, rfl, rfl, rfl, rfl⟩
      rw [pacingElapsed_sending (x := x) (by exact hx) hp, beatComplete_last hlast]
      rfl
  | toggle =>
    rw [hdisc] at hd
    obtain ⟨hp, href, d, rfl⟩ := hd
    have hmoved : l.reference ≠ some (!l.ready) := by
      rw [href]
      simp [l]
    refine ⟨_, { l with ready := !l.ready, dataIn := d, reference := ref l },
      exec_snrdyMoves hs (by simp), ?_, hst, rfl, rfl, rfl, rfl⟩
    rw [State.at_setReady, readyChanged_sending (x := x) (by exact hst) (by exact hx),
      readyWhileSending_toggles hp hmoved, beatComplete_last hlast]
    rfl

/-! ### The counts of a completed parcel -/

/-- The state s with a parcel of spur n counted: its storage given back, its channel's counters raised, and
the channel's link, the Notice Builder and the store as given. -/
def State.counted (s : State) (e : Outbound) (lk : Option Link) (nb : Notices) (st : Store) : State :=
  let x := s.channel e.chan
  { s.setChannel e.chan { x with
      link := lk, parcels := x.parcels + 1, bytes := x.bytes + BitVec.ofNat 32 e.body.length } with
    pool := s.pool.put false 1 (cellsFor e.body.length), notices := nb, store := st }

theorem State.setChannel_setChannel (s : State) (c : Chan) (x y : Channel) :
    (s.setChannel c x).setChannel c y = s.setChannel c y := by
  simp only [State.setChannel, Vector.set_set]

theorem satAdd_zero (x : Byte) : satAdd x 0 = x := by
  have hx : x.toNat < 256 := x.isLt
  apply BitVec.eq_of_toNat_eq
  rw [satAdd, BitVec.toNat_ofNat]
  omega

section counted
variable {s : State} {e : Outbound} {k : Link}

theorem countDrain_live {u : State} {c : Chan} (hl : u.link c = some k) (hd : k.isDraining = false)
    (a b : Nat) : u.countDrain c a b = u := by
  unfold Link.isDraining at hd
  cases hp : k.phase <;> simp_all [State.countDrain]

theorem countDrain_draining {u : State} {c : Chan} {m : CloseMode} {a b : Byte}
    (hl : u.link c = some k) (hp : k.phase = .draining m a b) (i j : Nat) :
    u.countDrain c i j =
      u.setLink c (some { k with phase := .draining m (satAdd a i) (satAdd b j) }) := by
  simp only [State.countDrain, hl, hp]

theorem countOff_eq {c : Chan} {limit out : Nat} (hl : s.link c = some k)
    (hd : k.dir = .outbound limit (out + 1)) : s.countOff c true =
      { s.setLink c (some { k with dir := .outbound limit out }) with
        notices := s.notices.addCredit c } := by
  simp only [State.countOff, hl, hd, if_true]
  rfl

theorem completed_playback (ho : e.origin ≠ .host) (hl : s.link e.chan = some k)
    (hd : k.isDraining = false) : s.completed e = s.counted e (some k) s.notices s.store := by
  have hlink : (s.countParcel e.chan e.body.length).link e.chan = some k :=
    (State.link_countParcel _ _ _ _).trans hl
  have hk : (s.channel e.chan).link = some k := hl
  simp only [State.completed, if_neg ho, countDrain_live hlink hd, State.counted, ← hk]
  rfl

/-- The channel that is counted, and what stands beside it. -/
theorem State.countParcel_setLink (c : Chan) (lk : Option Link) (n : Nat) :
    (s.setLink c lk).countParcel c n = s.setChannel c { s.channel c with
      link := lk, parcels := (s.channel c).parcels + 1
      bytes := (s.channel c).bytes + BitVec.ofNat 32 n } := by
  rw [State.countParcel, State.setLink, State.channel_setChannel, State.setChannel_setChannel]

theorem State.setLink_setChannel (c : Chan) (x : Channel) (lk : Option Link) :
    (s.setChannel c x).setLink c lk = s.setChannel c { x with link := lk } := by
  rw [State.setLink, State.channel_setChannel, State.setChannel_setChannel]

theorem completed_host {limit out : Nat} (ho : e.origin = .host) (hl : s.link e.chan = some k)
    (hk : k.dir = .outbound limit (out + 1)) (hd : k.isDraining = false) : s.completed e =
      s.counted e (some { k with dir := .outbound limit out }) (s.notices.addCredit e.chan) s.store := by
  let u : State := { s with notices := s.notices.addCredit e.chan }
  have hcount := State.countParcel_setLink (s := u) e.chan
    (some { k with dir := .outbound limit out }) e.body.length
  have hlink : ((u.setLink e.chan (some { k with dir := .outbound limit out })).countParcel e.chan
      e.body.length).link e.chan = some { k with dir := .outbound limit out } :=
    (State.link_countParcel _ _ _ _).trans (State.link_setLink _ _ _)
  have hoff : s.countOff e.chan true = u.setLink e.chan (some { k with dir := .outbound limit out }) :=
    countOff_eq hl hk
  simp only [State.completed, if_pos ho, hoff]
  rw [countDrain_live hlink hd, hcount]
  rfl

theorem completed_drain {limit out : Nat} {m : CloseMode} {a b : Byte} (ho : e.origin = .host)
    (hl : s.link e.chan = some k) (hk : k.dir = .outbound limit (out + 1))
    (hp : k.phase = .draining m a b) : s.completed e =
      s.counted e (some { k with dir := .outbound limit out, phase := .draining m (satAdd a 1) b })
        (s.notices.addCredit e.chan) s.store := by
  let u : State := { s with notices := s.notices.addCredit e.chan }
  have hcount := State.countParcel_setLink (s := u) e.chan
    (some { k with dir := .outbound limit out }) e.body.length
  have hlink : ((u.setLink e.chan (some { k with dir := .outbound limit out })).countParcel e.chan
      e.body.length).link e.chan = some { k with dir := .outbound limit out } :=
    (State.link_countParcel _ _ _ _).trans (State.link_setLink _ _ _)
  have hoff : s.countOff e.chan true = u.setLink e.chan (some { k with dir := .outbound limit out }) :=
    countOff_eq hl hk
  simp only [State.completed, if_pos ho, hoff]
  rw [countDrain_draining hlink hp, hcount, State.setLink_setChannel, satAdd_zero]
  rfl

/-- What a counted parcel leaves (R59, R60), whatever becomes of its channel and of the lane's column. -/
theorem counted_delivered {lk : Option Link} {nb : Notices} {st : Store} {n : Spur} {col : Column}
    (hn : ∀ c : Chan, c ≠ e.chan → nb.credits[c.val] = s.notices.credits[c.val])
    (hg : col.gather = s.gather n) :
    Delivered s ((s.counted e lk nb st).setColumn n col) n e := by
  have hchan : ((s.counted e lk nb st).setColumn n col).channel e.chan = { s.channel e.chan with
      link := lk, parcels := (s.channel e.chan).parcels + 1
      bytes := (s.channel e.chan).bytes + BitVec.ofNat 32 e.body.length } :=
    State.channel_setChannel s _ _
  exact
    { storage := rfl
      parcels := by rw [hchan]
      bytes := by rw [hchan]
      drops := by rw [hchan]
      others := fun c hc => ⟨State.channel_setChannel_ne s hc _, hn c hc⟩
      columns := fun m hm => State.column_setColumn_ne (s.counted e lk nb st) hm col
      gather := by rw [State.gather, State.column_setColumn]; exact hg
      path := ⟨rfl, rfl, rfl⟩
      settings := ⟨rfl, rfl⟩ }

theorem counted_link {lk : Option Link} {nb : Notices} {st : Store} :
    (s.counted e lk nb st).link e.chan = lk := by
  have hchan := State.channel_setChannel s e.chan { s.channel e.chan with
    link := lk, parcels := (s.channel e.chan).parcels + 1
    bytes := (s.channel e.chan).bytes + BitVec.ofNat 32 e.body.length }
  exact congrArg Channel.link hchan

theorem counted_link_ne {lk : Option Link} {nb : Notices} {st : Store} {c : Chan} (h : c ≠ e.chan) :
    (s.counted e lk nb st).link c = s.link c :=
  congrArg Channel.link (State.channel_setChannel_ne s h _)

theorem counted_closed {lk : Option Link} {nb nb' : Notices} {st : Store} :
    State.setLink { s.counted e lk nb st with notices := nb' } e.chan none =
      s.counted e none nb' st :=
  congrArg (fun v : State => { v with
    pool := s.pool.put false 1 (cellsFor e.body.length), notices := nb', store := st })
    (State.setLink_setChannel (s := s) e.chan _ none)

theorem counted_sameMap {k' : Link} {nb : Notices} {st : Store} (hl : s.link e.chan = some k)
    (hs : k'.shape = k.shape) : s.SameMap (s.counted e (some k') nb st) := by
  refine ⟨fun c => ?_, rfl⟩
  by_cases hc : c = e.chan
  · rw [hc, counted_link, hl, Option.map_some, Option.map_some, hs]
  · rw [counted_link_ne hc]

end counted

/-! ### The end of a parcel within an act -/

/-- The decision at the end of a parcel (R72), where u says the same as s of all that it looks at. -/
theorem Leads.parcelEnds {s u : State} {n : Spur} {col : Column} (js : List Job)
    (hst : col.lane.state = .sending) (hsend : col.lane.sending = none) (hq : col.queue = s.queue n)
    (hl : col.lane.atn = (s.lane n).atn ∧ col.lane.config = (s.lane n).config ∧
      col.lane.yieldOwed = (s.lane n).yieldOwed)
    (hi : u.openIn n = s.openIn n)
    (hm : ∀ e ∈ s.queue n, u.serviceable e = s.serviceable e ∧ u.inProfile e.chan = s.inProfile e.chan)
    (hb : ∀ e ∈ s.queue n, s.serviceable e = true → e.body ≠ []) :
    ∃ col', Leads 1 (u.at n col (.parcelEnd n :: js)) (u.at n col' js) ∧
      EndOfParcel s (u.setColumn n col') n ∧ col'.gather = col.gather ∧
      (s.outWork n = false → s.attentionHeard n = false → (s.lane n).config.home = .outward →
        col'.lane.strobe = col.lane.strobe) := by
  obtain ⟨col', heq, hd⟩ := parcelEnd_decided (s := u) (n := n) (js := js) hst hsend
    (fun e he hse => hb e (hq ▸ he) ((hm e (hq ▸ he)).1 ▸ hse))
  refine ⟨col', .nextAt heq (.refl 0 _), hd.endOfParcel rfl hsend hq hl hi hm, hd.gather,
    fun hwork hatt hhome => ?_⟩
  obtain ⟨hatn, hconfig, howed⟩ := hl
  have hheeds : u.heeds n col.lane = false := by
    rw [State.heeds, hatn, hconfig, howed, hi]
    show (s.attentionHeard n && _) = false
    rw [hatt, Bool.false_and]
  have hidle : col.queue.any u.serviceable = false := by
    rw [hq, List.any_eq_false]
    intro e he
    rw [(hm e he).1]
    exact List.any_eq_false.mp hwork e he
  rw [hd.outward hheeds hidle (by rw [hconfig]; exact hhome)]

/-- Settles O49. -/
theorem readyWhileSending_completes : Obligations.ReadyWhileSending := by
  unfold Obligations.ReadyWhileSending
  refine ⟨fun s n d x hs hst hx hsetup => ?_,
    fun s n x c k limit out hs hlast ho hk hlive hdir hb => ?_⟩
  · intro l timer
    have hmoves : ∀ (r : Bool) (l' : Lane), l.ready ≠ r →
        readyWhileSending n x (s.at n { s.column n with
          lane := { l with ready := r, dataIn := d } } [.arbiter]) =
          s.at n { s.column n with lane := l' } [.arbiter] →
        exec (.snrdyChange n r d) s = .next (s.setLane n l') := by
      intro r l' hr h
      rw [exec_snrdyMoves hs hr]
      refine State.act_at (k := 0) (u := s) (col := { s.column n with lane := l' }) hs ?_
        (by norm_num) rfl rfl
      rw [State.at_setReady, readyChanged_sending (x := x) (by exact hst) (by exact hx)]
      exact .of_eq h
    refine ⟨fun hp hr => hmoves true _ (by rw [hr]; decide) ?_,
      fun hp hr => hmoves false _ (by rw [hr]; decide) ?_,
      fun hp hd hr hmore => hmoves true _ (by rw [hr]; decide) ?_,
      fun hp hd href hmore => hmoves (!l.ready) _ (by simp) ?_⟩
    · rw [readyWhileSending_presents hp rfl, presentByte_at hsetup]
      rfl
    · exact readyWhileSending_taken hp rfl
    · rw [readyWhileSending_returns hp rfl, beatComplete_presents hmore hsetup (.inr (.inr rfl))]
      simp [hd, timer, l]
    · have hmoved : l.reference ≠ some (!l.ready) := by
        rw [href]
        simp
      rw [readyWhileSending_toggles hp hmoved, beatComplete_presents hmore hsetup (.inr (.inl hd))]
      simp [hd, timer, l]
  · obtain ⟨f, l', hact, hf, hst, hatn, hconfig, howed, -⟩ := exec_lastBeat hs hlast
    let u : State := s.counted x.parcel (some { k with dir := .outbound limit out })
      (s.notices.addCredit x.parcel.chan) s.store
    have hu : s.completed x.parcel = u := completed_host ho hk hdir hlive
    have hmap : s.SameMap u := counted_sameMap hk (by simp only [Link.shape, hdir])
    obtain ⟨col', hend, hparcel, hgather, -⟩ := Leads.parcelEnds (s := s) (u := u) (n := n)
      (col := { s.column n with lane := { l' with sending := none } }) [.arbiter] hst rfl rfl
      ⟨hatn, hconfig, howed⟩ (hmap.openIn n)
      (fun e _ => ⟨by rw [hmap.serviceable], hmap.inProfile e.chan⟩) hb
    have hlink : u.link x.parcel.chan = some { k with dir := .outbound limit out } := counted_link
    refine ⟨u.setColumn n col', ?_, counted_delivered (fun c hc => ?_) hgather, hparcel, hlink, ?_,
      rfl, rfl⟩
    · rw [hact]
      refine State.act_at (k := 3) hs ?_ (by norm_num) rfl rfl
      rw [hf, completeParcel_at _ _ _ _ (.inr ho), hu, tellJobs, ho]
      exact .nextAt (serve_alone (by exact hs.alone))
        (.nextAt (drainTest_live (l := { k with dir := .outbound limit out }) hlink hlive) hend)
    · rw [Notices.addCredit_credit, if_neg hc, Nat.add_zero]
    · exact (Notices.addCredit_credit _ _ _).trans (by rw [if_pos rfl]; rfl)

end Sys2Proof.Machine
end

section
/-! What follows the end of a parcel (03, sections 3.4 and 3.5; 02, sections 2.6 and 2.7; 08, section 8.5): the
context that is told, the drain that completes, and the outbound stall. -/

namespace Sys2Proof.Machine

-- the proofs are elaborated one after another: all at once they ask for too many threads
set_option Elab.async false

/-! ### The context that is told (R164) -/

theorem setSegState_at (s : State) (n : Spur) (col : Column) (js : List Job) (h : Handle)
    (st : SegState) : (s.at n col js).setSegState h st = (s.setSegState h st).at n col js := by
  cases hg : s.segment h with
  | none => simp only [State.setSegState, State.at_segment, hg]
  | some g => simp only [State.setSegState, State.at_segment, hg, State.at_setSegment]

/-- The store once context i has ended on segment h (R164). -/
def Store.ended (st : Store) (i : Context) (h : Handle) : Store :=
  { st with
    segments := match st.segments[h.val] with
      | none => st.segments
      | some g => st.segments.set h.val (some { g with state := .ready })
    contexts := st.contexts.set i.val none }

/-- The store with context i as given. -/
def Store.withContext (st : Store) (i : Context) (x : Option Playback) : Store :=
  { st with contexts := st.contexts.set i.val x }

theorem Store.ended_context (st : Store) (i : Context) (h : Handle) (j : Context) :
    (st.ended i h).contexts[j.val] = if j = i then none else st.contexts[j.val] := by
  by_cases hj : j = i
  · subst hj
    simp [Store.ended]
  · have hv : i.val ≠ j.val := fun e => hj (Fin.ext e.symm)
    simp [Store.ended, hv, hj]

theorem Store.ended_segment {st : Store} {h : Handle} {g : Segment} (hg : st.segments[h.val] = some g)
    (i : Context) : (st.ended i h).segments[h.val] = some { g with state := .ready } := by
  simp [Store.ended, hg]

theorem Store.withContext_context (st : Store) (i : Context) (x : Option Playback) (j : Context) :
    (st.withContext i x).contexts[j.val] = if j = i then x else st.contexts[j.val] := by
  by_cases hj : j = i
  · subst hj
    simp [Store.withContext]
  · have hv : i.val ≠ j.val := fun e => hj (Fin.ext e.symm)
    simp [Store.withContext, hv, hj]

theorem setSegState_setContext (s : State) (i : Context) (h : Handle) :
    (s.setSegState h .ready).setContext i none = { s with store := s.store.ended i h } := by
  unfold State.setSegState Store.ended State.segment
  cases s.store.segments[h.val] <;> rfl

section telling
variable {s : State} {n : Spur} {col : Column} {js : List Job} {i : Context} {p : Playback}

theorem tellContext_tests (hp : s.context i = some p) (hph : p.phase = .active) :
    tellContext i (s.at n col js) =
      (s.setContext i (some { p with count := p.count - 1 })).at n col (.testContext i :: js) := by
  simp only [tellContext, State.at_context, hp, hph, State.at_setContext, State.at_push]
  rfl

theorem tellContext_counts (hp : s.context i = some p) (hph : p.phase ≠ .active)
    (hgo : ¬ (p.phase = .ending ∧ p.count - 1 = 0)) : tellContext i (s.at n col js) =
      (s.setContext i (some { p with count := p.count - 1 })).at n col js := by
  cases hc : p.phase with
  | active => exact absurd hc hph
  | ending =>
    have hcount : ¬ p.count - 1 = 0 := fun h => hgo ⟨hc, h⟩
    simp only [tellContext, State.at_context, hp, hc, State.at_setContext, if_neg hcount]
  | waiting => simp only [tellContext, State.at_context, hp, hc, State.at_setContext]
  | paused => simp only [tellContext, State.at_context, hp, hc, State.at_setContext]

/-- A context that goes on counts the parcel off (R164). -/
theorem Leads.tells {m : Nat} {t : State} (hp : s.context i = some p)
    (hgo : ¬ (p.phase = .ending ∧ p.count - 1 = 0)) (hq : p.phase ≠ .active ∨ p.timer = .running)
    (h : Leads m ((s.setContext i (some { p with count := p.count - 1 })).at n col js) t) :
    Leads (m + 2) (s.at n col (.tellContext i :: js)) t := by
  by_cases hph : p.phase = .active
  · refine .nextAt (tellContext_tests hp hph) (.nextAt ?_ h)
    show testContext i _ = _
    simp [testContext, State.at_context, hq.resolve_left fun hne => hne hph]
  · obtain ⟨k, hk, hrun⟩ := h
    exact .nextAt (tellContext_counts hp hph hgo) ⟨k, by omega, hrun⟩

/-- A context that was ENDING with no other parcel ends with DONE (R164). -/
theorem tellContext_ends (hp : s.context i = some p) (hph : p.phase = .ending)
    (hcount : p.count - 1 = 0) (hrec : s.engine.records = none) :
    tellContext i (s.at n col js) = State.at { s with
      notices := s.notices.arrive (.playend p.chan p.handle .done)
      store := s.store.ended i p.handle } n col js := by
  have hrecord : ∀ x : Option Playback, (s.setContext i x).record (.playend p.chan p.handle .done) =
      { s.setContext i x with notices := s.notices.arrive (.playend p.chan p.handle .done) } :=
    fun x => State.record_now (s := s.setContext i x) hrec _
  simp only [tellContext, State.at_context, hp, hph, State.at_setContext, if_pos hcount, endDone,
    State.at_record, setSegState_at, hrecord]
  rw [setSegState_setContext]
  refine congrArg (fun st : Store => State.at { s with
    notices := s.notices.arrive (.playend p.chan p.handle .done), store := st } n col js) ?_
  show Store.ended { s.store with contexts := s.store.contexts.set i.val _ } i p.handle = _
  simp only [Store.ended, Vector.set_set]

end telling

/-! ### The outbound-work condition of a lane that is not idle (R54, R75) -/

/-- On a lane that is not idle, the condition moves at most the yield timer and what the lane has seen. -/
theorem Leads.workBusy (s : State) (n : Spur) (col : Column) (ho : col.lane.state ≠ .idleOut)
    (hi : col.lane.state ≠ .idleIn) : ∃ y w, ∀ (js : List Job),
      Leads 2 (s.at n col (.work n :: js))
        (s.at n { col with lane := { col.lane with yieldTimer := y, workSeen := w } } js) := by
  have hsynced : ∃ y, col.lane.synced (col.queue.any s.serviceable) =
      { col.lane with yieldTimer := y } := by
    unfold Lane.synced
    split
    · split
      · exact ⟨_, rfl⟩
      · exact ⟨col.lane.yieldTimer, rfl⟩
    · exact ⟨none, rfl⟩
  obtain ⟨y, hy⟩ := hsynced
  by_cases hseen : col.queue.any s.serviceable = col.lane.workSeen
  · refine ⟨y, col.lane.workSeen, fun js => .nextAt (u := s.at n { col with
      lane := { col.lane with yieldTimer := y } } js) ?_ (.refl 1 _)⟩
    show work n (s.at n col js) = _
    simp only [work, syncYield_at, State.at_outWork, State.at_lane, hy, if_pos hseen]
  · refine ⟨y, col.queue.any s.serviceable, fun js => .nextAt (u := s.at n { col with
      lane := { col.lane with yieldTimer := y, workSeen := col.queue.any s.serviceable } }
        (.decide n :: js)) ?_ (.nextAt (decideLane_busy ?_ ?_) (.refl 0 _))⟩
    · show work n (s.at n col js) = _
      simp only [work, syncYield_at, State.at_outWork, State.at_lane, hy, if_neg hseen,
        State.at_setLane, State.at_push]
      rfl
    · rw [State.at_lane]; exact ho
    · rw [State.at_lane]; exact hi

/-! ### An OUT channel whose state changes -/

/-- What becomes of an OUT channel is nothing to the spur's IN channel. -/
theorem State.openIn_of_outbound {s u : State} {n : Spur} {c : Chan} {l : Link}
    (hl : s.link c = some l) (ho : l.isIn = false) (hu : ∀ l', u.link c = some l' → l'.isIn = false)
    (hne : ∀ d, d ≠ c → u.link d = s.link d) : u.openIn n = s.openIn n := by
  have hchan : u.inChan n = s.inChan n := by
    unfold State.inChan
    congr 1
    funext d
    by_cases hd : d = c
    · subst hd
      rw [hl]
      cases hu' : u.link d with
      | none => simp [ho]
      | some l' => simp [ho, hu l' hu']
    · rw [hne d hd]
  unfold State.openIn
  rw [hchan]
  cases hi : s.inChan n with
  | none => rfl
  | some d =>
    have hfound := List.find?_some (hi : allChans.find? _ = some d)
    have hd : d ≠ c := by
      rintro rfl
      simp [hl, ho] at hfound
    simp only [hne d hd]

theorem Link.isIn_outbound {l : Link} {limit k : Nat} (h : l.dir = .outbound limit k) :
    l.isIn = false := by
  simp only [Link.isIn, h]

/-- An entry of another channel is judged by that channel alone. -/
theorem State.serviceable_of_ne {s u : State} {c : Chan} (hne : ∀ d, d ≠ c → u.link d = s.link d)
    (hp : u.profiles = s.profiles) {e : Outbound} (he : e.chan ≠ c) :
    u.serviceable e = s.serviceable e ∧ u.inProfile e.chan = s.inProfile e.chan := by
  simp only [State.serviceable, State.inProfile, hne e.chan he, State.profile, hp]
  exact ⟨trivial, trivial⟩

/-! ### The drain completion test (R38, R39) -/

section drain
variable {s : State} {n : Spur} {col : Column} {js : List Job} {c : Chan} {l : Link} {m : CloseMode}
  {a b : Byte} (hl : s.link c = some l) (hp : l.phase = .draining m a b) (hn : l.spur = n)
include hl hp hn

theorem drainTest_waits (hd : (∃ e ∈ col.queue, e.chan = c) ∨
      (∃ x, col.lane.sending = some x ∧ x.parcel.chan = c) ∨
      l.isIn = true ∧ (col.gather.isPartial = true ∨ col.lane.receiving ≠ none)) :
    drainTest c (s.at n col js) = s.at n col js := by
  have hdrained : (s.at n col js).drained c l = false := by
    rcases hd with ⟨e, he, hc⟩ | ⟨x, hx, hc⟩ | ⟨hi, hg | hr⟩
    · have hany : (col.queue.any fun e => decide (e.chan = c)) = true :=
        List.any_eq_true.mpr ⟨e, he, by simp [hc]⟩
      simp [State.drained, hn, hany]
    · simp [State.drained, hn, hx, hc]
    · simp [State.drained, hn, hi, hg]
    · simp [State.drained, hn, hi, hr]
  simp [drainTest, hl, hp, hdrained]

theorem drainTest_completes (hq : ∀ e ∈ col.queue, e.chan ≠ c)
    (hx : ∀ x, col.lane.sending = some x → x.parcel.chan ≠ c)
    (hi : l.isIn = true → col.gather.isPartial = false ∧ col.gather.waiting = none ∧
      col.lane.receiving = none) (hrec : s.engine.records = none) :
    drainTest c (s.at n col js) = (State.setLink { s with
      notices := (s.notices.arrive (.shut c a b)).clearCredit c } c none).at n col
        (.work n :: .decide n :: js) := by
  have hany : (col.queue.any fun e => decide (e.chan = c)) = false := by
    rw [List.any_eq_false]
    intro e he
    simp [hq e he]
  have hdrained : (s.at n col js).drained c l = true := by
    cases hs : col.lane.sending with
    | none => cases hin : l.isIn <;> simp_all [State.drained]
    | some x => cases hin : l.isIn <;> simp_all [State.drained]
  have hrecord : s.record (.shut c a b) = { s with notices := s.notices.arrive (.shut c a b) } :=
    State.record_now hrec _
  simp only [drainTest, State.at_link, hl, hp, hdrained, if_true, State.at_record, hrecord, hn]
  rfl

end drain

/-! ### The completion of a playback parcel, and of a host parcel in a drain -/

/-- A settled act that ends a parcel of spur n, once only its storage, the context that is told and the drain
test are left to follow (R59): col is the column as they end, and u the rest of the part. -/
theorem act_completes {s u : State} {n : Spur} {x : Sending} {c : Instr} {l' : Lane} {m : Nat}
    (hs : Settled s) {f : State → State} (hact : exec c s = s.act f)
    (hf : f (s.at n (s.column n) [.arbiter]) =
      completeParcel n x.parcel (s.at n { s.column n with lane := l' } [.arbiter]))
    (hbody : x.parcel.body ≠ []) {col : Column}
    (hleads : Leads m ((s.completed x.parcel).at n
        { s.column n with lane := { l' with sending := none } }
        (tellJobs x.parcel ++ [.drainTest x.parcel.chan, .parcelEnd n, .arbiter]))
      (u.at n col [.parcelEnd n, .arbiter])) (hm : m ≤ 900)
    (htx : u.tx = s.tx) (ha : u.agenda = s.agenda) (hwait : (s.completed x.parcel).pool.waiting = [])
    (hst : col.lane.state = .sending) (hsend : col.lane.sending = none) (hq : col.queue = s.queue n)
    (hl : col.lane.atn = (s.lane n).atn ∧ col.lane.config = (s.lane n).config ∧
      col.lane.yieldOwed = (s.lane n).yieldOwed) (hg : col.gather = s.gather n)
    (hi : u.openIn n = s.openIn n)
    (hmap : ∀ e ∈ s.queue n,
      u.serviceable e = s.serviceable e ∧ u.inProfile e.chan = s.inProfile e.chan)
    (hb : ∀ e ∈ s.queue n, s.serviceable e = true → e.body ≠ []) :
    ∃ col', exec c s = .next (u.setColumn n col') ∧ col'.gather = s.gather n ∧
      EndOfParcel s (u.setColumn n col') n := by
  obtain ⟨col', hend, hparcel, hgather, -⟩ := Leads.parcelEnds (s := s) (u := u) (n := n) (col := col)
    [.arbiter] hst hsend hq hl hi hmap hb
  refine ⟨col', ?_, hgather.trans hg, hparcel⟩
  rw [hact]
  refine State.act_at (k := (m + 1) + 1) hs ?_ (by omega) htx ha
  rw [hf, completeParcel_at _ _ _ _ (.inl hbody)]
  exact .nextAt (serve_alone (by exact hwait)) (hleads.trans hend)

theorem LastBeatEnds.body {s : State} {n : Spur} {x : Sending} {c : Instr} (h : LastBeatEnds s n x c) :
    x.parcel.body ≠ [] := by
  obtain ⟨-, -, hlast, -⟩ := h
  intro hnil
  rw [hnil] at hlast
  simp at hlast

/-- Settles O52. -/
theorem outboundBeatTimers : Obligations.OutboundBeatTimers := by
  unfold Obligations.OutboundBeatTimers
  refine ⟨fun s n d x hs hx => ?_, fun s n x c k hs hlast hk hrec hroom hb => ?_⟩
  · intro l more next strobed
    have hquiet : ∀ {i : Instr} {f : State → State} {l' : Lane}, exec i s = s.act f →
        f (s.at n (s.column n) [.arbiter]) = s.at n { s.column n with lane := l' } [.arbiter] →
        exec i s = .next (s.setLane n l') := by
      intro i f l' hact hf
      rw [hact]
      exact State.act_at (k := 0) (u := s) (col := { s.column n with lane := l' }) hs (.of_eq hf)
        (by norm_num) rfl rfl
    have hsetup : ∀ {l' : Lane}, x.phase = .setup →
        strobeAction n x (s.at n (s.column n) [.arbiter]) =
          s.at n { s.column n with lane := l' } [.arbiter] → strobed l' := by
      intro l' hp h
      refine hquiet (f := setupElapsed n) rfl ?_
      rw [← h]
      have hx' : (s.column n).lane.sending = some x := hx
      simp only [setupElapsed, State.at_lane, hx', if_pos hp]
    refine ⟨fun hp => ⟨fun hd hr => hsetup hp (strobeAction_offers hd hr),
        fun hd => hsetup hp (strobeAction_gated hd), fun hd => hsetup hp (strobeAction_paced hd),
        fun hd => hsetup hp (strobeAction_toggle hd)⟩,
      fun hp hd hr hmore => hquiet (exec_strobeWidthElapsed hs d) ?_,
      fun hp => ⟨hquiet (exec_strobeWidthElapsed hs d) ?_, hquiet (f := pacingElapsed n) rfl ?_⟩,
      fun hp hd hmore => hquiet (exec_strobeWidthElapsed hs d) ?_,
      fun hp hd hmore => hquiet (f := pacingElapsed n) rfl ?_⟩
    · rw [State.at_setDataIn, strobeElapsed_sending (x := x) (by exact hx) (.inl hp),
        beatComplete_presents hmore.2 hmore.1 (by exact .inr (.inr hr))]
      simp only [hd]
      rfl
    · rw [State.at_setDataIn, strobeElapsed_pulse (x := x) (by exact hx) hp]
      rfl
    · rw [pacingElapsed_pulse (x := x) (by exact hx) hp]
      rfl
    · rw [State.at_setDataIn, strobeElapsed_sending (x := x) (by exact hx) (.inr hp),
        beatComplete_presents hmore.2 hmore.1 (.inl hd)]
      simp only [hd, ne_eq, not_true_eq_false, and_false, if_false]
      rfl
    · rw [pacingElapsed_sending (x := x) (by exact hx) hp,
        beatComplete_presents hmore.2 hmore.1 (.inl hd)]
      simp only [hd, ne_eq, not_true_eq_false, and_false, if_false]
      rfl
  · intro chan done
    obtain ⟨f, l', hact, hf, hst, hatn, hconfig, howed, -⟩ := exec_lastBeat hs hlast
    let e := x.parcel
    let col : Column := { s.column n with lane := { l' with sending := none } }
    refine ⟨fun i p ho hp hlive hquiet => ?_, fun m a b limit out ho hph hspur hdir => ?_⟩
    · let base := s.counted e (some k) s.notices s.store
      have hbase : s.completed e = base :=
        completed_playback (by rw [ho]; exact Origin.noConfusion) hk hlive
      have htells : tellJobs e = [.tellContext i] := by simp only [tellJobs, e, ho]
      have hends : ∀ (nb : Notices) (st : Store),
          (∀ c : Chan, c ≠ chan → nb.credits[c.val] = s.notices.credits[c.val]) →
          Leads 2 (base.at n col [.tellContext i, .drainTest chan, .parcelEnd n, .arbiter])
            ((s.counted e (some k) nb st).at n col [.drainTest chan, .parcelEnd n, .arbiter]) →
          ∃ col', done ((s.counted e (some k) nb st).setColumn n col') := by
        intro nb st hcredit htold
        let u := s.counted e (some k) nb st
        have hlink : u.link chan = some k := counted_link
        have hmap : s.SameMap u := counted_sameMap hk rfl
        obtain ⟨col', hnext, hgather, hparcel⟩ := act_completes (u := u) (col := col) hs hact hf
          hlast.body (m := 2 + 1)
          (by
            show Leads _ ((s.completed e).at n col _) _
            rw [hbase, htells]
            exact htold.trans (.nextAt (drainTest_live hlink hlive) (.refl 0 _)))
          (by norm_num) rfl rfl (by rw [show s.completed x.parcel = base from hbase]; exact hs.alone)
          hst rfl rfl ⟨hatn, hconfig, howed⟩ rfl (hmap.openIn n)
          (fun e _ => ⟨by rw [hmap.serviceable], hmap.inProfile e.chan⟩) hb
        exact ⟨col', hnext, counted_delivered hcredit hgather, hparcel⟩
      by_cases hend : p.phase = .ending ∧ p.count - 1 = 0
      · obtain ⟨col', hdone⟩ := hends (s.notices.arrive (.playend p.chan p.handle .done))
          (s.store.ended i p.handle) (fun c _ => by rw [Notices.arrive_credits])
          (.nextAt (tellContext_ends (s := base) hp hend.1 hend.2 hrec) (.of_eq rfl))
        have hlink := counted_link (s := s) (e := e) (lk := some k)
          (nb := s.notices.arrive (.playend p.chan p.handle .done)) (st := s.store.ended i p.handle)
        refine ⟨_, hdone, hlink, ?_, fun j hj => ?_, fun hno => ?_, fun _ _ => ⟨?_, ?_, fun g hg => ?_⟩⟩
        · exact congrArg (fun v : Vector Nat 47 => v[chan.val]) (Notices.arrive_credits _ _)
        · exact (Store.ended_context _ _ _ j).trans (if_neg hj)
        · exact (hno.elim (fun h => h hend.1) fun h => by omega).elim
        · exact (Store.ended_context _ _ _ i).trans (if_pos rfl)
        · exact Notices.arrive_room hroom _
        · exact Store.ended_segment hg i
      · obtain ⟨col', hdone⟩ := hends s.notices
          (s.store.withContext i (some { p with count := p.count - 1 })) (fun _ _ => rfl)
          (.tells (s := base) hp hend hquiet (.of_eq rfl))
        have hlink := counted_link (s := s) (e := e) (lk := some k) (nb := s.notices)
          (st := s.store.withContext i (some { p with count := p.count - 1 }))
        refine ⟨_, hdone, hlink, rfl, fun j hj => ?_, fun _ => ⟨?_, rfl, fun _ => rfl⟩,
          fun h1 h2 => absurd ⟨h1, by omega⟩ hend⟩
        · exact (Store.withContext_context _ _ _ j).trans (if_neg hj)
        · exact (Store.withContext_context _ _ _ i).trans (if_pos rfl)
    · let nb := s.notices.addCredit chan
      let k' : Link := { k with dir := .outbound limit out, phase := .draining m (satAdd a 1) b }
      let base := s.counted e (some k') nb s.store
      have hbase : s.completed e = base := completed_drain ho hk hdir hph
      have htells : tellJobs e = [] := by simp only [tellJobs, e, ho]
      have hlink : base.link chan = some k' := counted_link
      have hwait : (s.completed x.parcel).pool.waiting = [] := by
        rw [show s.completed x.parcel = base from hbase]
        exact hs.alone
      have hcredit : ∀ c : Chan, nb.credits[c.val] = s.notices.credits[c.val] + if c = chan then 1 else 0 :=
        fun c => Notices.addCredit_credit _ _ c
      by_cases hq : ∃ e ∈ s.queue n, e.chan = chan
      · have hmap : s.SameMap base := counted_sameMap hk (by simp only [Link.shape, hdir, hph, k'])
        obtain ⟨col', hnext, hgather, hparcel⟩ := act_completes (u := base) (col := col) hs hact hf
          hlast.body (m := 1)
          (by
            show Leads _ ((s.completed e).at n col _) _
            rw [hbase, htells]
            exact .nextAt (drainTest_waits (l := k') hlink rfl hspur (.inl hq)) (.refl 0 _))
          (by norm_num) rfl rfl hwait hst rfl rfl ⟨hatn, hconfig, howed⟩ rfl (hmap.openIn n)
          (fun e _ => ⟨by rw [hmap.serviceable], hmap.inProfile e.chan⟩) hb
        refine ⟨base.setColumn n col', ⟨hnext, counted_delivered (fun c hc => ?_) hgather, hparcel⟩, rfl,
          fun _ => ⟨hlink, ?_, rfl⟩, fun hno => ?_⟩
        · rw [hcredit, if_neg hc, Nat.add_zero]
        · exact (hcredit chan).trans (by rw [if_pos rfl]; rfl)
        · obtain ⟨e, he, hc⟩ := hq
          exact absurd hc (hno e he)
      · have hnone : ∀ e ∈ s.queue n, e.chan ≠ chan := fun e he hc => hq ⟨e, he, hc⟩
        let nb' := (nb.arrive (.shut chan (satAdd a 1) b)).clearCredit chan
        let u := s.counted e none nb' s.store
        have hclosed : State.setLink { base with notices := nb' } chan none = u := counted_closed
        have hne : ∀ d, d ≠ chan → u.link d = s.link d := fun d hd => counted_link_ne hd
        have hgone : u.link chan = none := counted_link
        have hopen : u.openIn n = s.openIn n :=
          State.openIn_of_outbound hk (Link.isIn_outbound hdir) (fun l' hl' => by
            rw [hgone] at hl'
            cases hl') hne
        have hbusy : l'.state ≠ .idleOut ∧ l'.state ≠ .idleIn := by
          rw [hst]
          exact ⟨LaneState.noConfusion, LaneState.noConfusion⟩
        have hdrain : drainTest chan (base.at n col [.parcelEnd n, .arbiter]) =
            u.at n col [.work n, .decide n, .parcelEnd n, .arbiter] :=
          (drainTest_completes (s := base) (col := col) (l := k') hlink rfl hspur hnone (fun x hx => by cases hx)
            (fun hin => by cases hin) hrec).trans
            (congrArg (fun v : State => v.at n col [.work n, .decide n, .parcelEnd n, .arbiter]) hclosed)
        obtain ⟨y, w, hwork⟩ := Leads.workBusy u n col hbusy.1 hbusy.2
        obtain ⟨col', hnext, hgather, hparcel⟩ := act_completes (u := u)
          (col := { col with lane := { col.lane with yieldTimer := y, workSeen := w } }) hs hact hf
          hlast.body (m := 2 + 1 + 1)
          (by
            show Leads _ ((s.completed e).at n col _) _
            rw [hbase, htells]
            exact .nextAt hdrain ((hwork _).trans (.nextAt (decideLane_busy (by rw [State.at_lane]; exact hbusy.1)
                (by rw [State.at_lane]; exact hbusy.2)) (.refl 0 _))))
          (by norm_num) rfl rfl hwait hst rfl rfl ⟨hatn, hconfig, howed⟩ rfl hopen
          (fun e he => State.serviceable_of_ne hne rfl (hnone e he)) hb
        have hcredit' : ∀ c : Chan, nb'.credits[c.val] = if c = chan then 0 else nb.credits[c.val] := by
          intro c
          rw [Notices.clearCredit_credit, Notices.arrive_credits]
        refine ⟨u.setColumn n col', ⟨hnext, counted_delivered (fun c hc => ?_) hgather, hparcel⟩, rfl,
          fun hyes => ?_, fun _ => ⟨hgone, ?_, ?_⟩⟩
        · rw [hcredit', if_neg hc, hcredit, if_neg hc, Nat.add_zero]
        · exact absurd hyes hq
        · exact (hcredit' chan).trans (if_pos rfl)
        · show (nb.arrive _).fifo = _
          rw [Notices.arrive_room (by exact hroom)]
          rfl

end Sys2Proof.Machine
end

section
/-! The stalls (03, section 3.5; 04, sections 4.6 and 4.7; 05, section 5.3): a parcel or a gather abandoned at
the ack limit, and what becomes of its channel. -/

namespace Sys2Proof.Machine

-- the proofs are elaborated one after another: all at once they ask for too many threads
set_option Elab.async false

/-! ### A channel's link replaced -/

/-- The state s with the link of channel c, the Notice Builder, the pool and the store as given. -/
def State.relinked (s : State) (c : Chan) (lk : Option Link) (nb : Notices) (p : Pool) (st : Store) :
    State :=
  { s.setLink c lk with notices := nb, pool := p, store := st }

section relinked
variable {s : State} {c : Chan} {lk lk' : Option Link} {nb nb' : Notices} {p p' : Pool} {st st' : Store}

theorem State.setLink_setLink : (s.setLink c lk).setLink c lk' = s.setLink c lk' :=
  State.setLink_setChannel (s := s) c _ lk'

theorem relinked_setLink :
    (s.relinked c lk nb p st).setLink c lk' = s.relinked c lk' nb p st :=
  congrArg (fun v : State => { v with notices := nb, pool := p, store := st }) State.setLink_setLink

theorem relinked_link : (s.relinked c lk nb p st).link c = lk := State.link_setLink s c lk

theorem relinked_link_ne {d : Chan} (h : d ≠ c) : (s.relinked c lk nb p st).link d = s.link d :=
  State.link_setLink_ne s h lk

theorem relinked_channel : (s.relinked c lk nb p st).channel c = { s.channel c with link := lk } :=
  State.channel_setChannel s c _

theorem relinked_channel_ne {d : Chan} (h : d ≠ c) :
    (s.relinked c lk nb p st).channel d = s.channel d := State.channel_setChannel_ne s h _

theorem relinked_relinked :
    (s.relinked c lk nb p st).relinked c lk' nb' p' st' = s.relinked c lk' nb' p' st' :=
  congrArg (fun v : State => { v with notices := nb', pool := p', store := st' })
    (relinked_setLink (s := s) (nb := nb) (p := p) (st := st))

theorem State.relinked_self (h : s.link c = lk) :
    s.relinked c lk s.notices s.pool s.store = s := by
  rw [State.relinked, State.setLink_same h]

end relinked

/-! ### Counting off the queued parcels of a drain (R33, R34) -/

section countOffs
variable {s : State} {c : Chan} {l : Link} {limit k : Nat}

theorem countOff_uncredited (hl : s.link c = some l) (hd : l.dir = .outbound limit k) :
    s.countOff c false = s.setLink c (some { l with dir := .outbound limit (k - 1) }) := by
  cases k with
  | zero =>
    simp only [State.countOff, hl, hd]
    exact (State.setLink_same (by rw [hl, Nat.zero_sub, ← hd])).symm
  | succ k =>
    simp only [State.countOff, hl, hd]
    rfl

theorem countOffs_uncredited (hl : s.link c = some l) (hd : l.dir = .outbound limit k) (m : Nat) :
    (List.replicate m ()).foldl (fun t _ => t.countOff c false) s =
      s.setLink c (some { l with dir := .outbound limit (k - m) }) := by
  induction m generalizing s l k with
  | zero => exact (State.setLink_same (s := s) (by rw [hl, Nat.sub_zero, ← hd])).symm
  | succ m ih =>
    rw [List.replicate_succ, List.foldl_cons, countOff_uncredited hl hd,
      ih (State.link_setLink _ _ _) rfl, State.setLink_setLink]
    have hsub : k - 1 - m = k - (m + 1) := by omega
    simp only [hsub]

/-- The queued parcels of a channel in a drain are removed (R33, R35, R65). -/
theorem discardQueued_at {n : Spur} {col : Column} {js : List Job} {m : CloseMode} {a b : Byte}
    (hl : s.link c = some l) (hd : l.dir = .outbound limit k) (hp : l.phase = .draining m a b)
    (hn : l.spur = n) :
    let gone := col.queue.filter fun e => e.chan = c
    let hosts := gone.filter fun e => e.origin = .host
    discardQueued c (s.at n col js) = (s.relinked c
        (some { l with
          dir := .outbound limit (k - hosts.length)
          phase := .draining m a (satAdd b gone.length) }) s.notices
        (s.pool.put false gone.length ((gone.map fun e => cellsFor e.body.length).sum)) s.store).at n
      { col with queue := col.queue.filter fun e => e.chan ≠ c } (.serve :: .work n :: js) := by
  intro gone hosts
  subst hn
  have hfold : (List.replicate hosts.length ()).foldl (fun t _ => t.countOff c false)
      (s.at l.spur { col with queue := col.queue.filter fun e => e.chan ≠ c } js) =
      (s.setLink c (some { l with dir := .outbound limit (k - hosts.length) })).at l.spur
        { col with queue := col.queue.filter fun e => e.chan ≠ c } js :=
    countOffs_uncredited (by exact hl) hd _
  have hlink := State.link_setLink s c (some { l with dir := .outbound limit (k - hosts.length) })
  simp only [discardQueued, State.at_link, hl, State.at_queue, State.at_setQueue]
  rw [hfold, countDrain_at, countDrain_draining hlink hp, State.setLink_setLink, satAdd_zero]
  rfl

end countOffs

theorem satAdd_satAdd (x : Byte) (i j : Nat) : satAdd (satAdd x i) j = satAdd x (i + j) := by
  have hx : x.toNat < 256 := x.isLt
  apply BitVec.eq_of_toNat_eq
  simp only [satAdd, BitVec.toNat_ofNat]
  omega

/-! ### The context of a halted channel (R165) -/

theorem State.leaveWaiting_alone {s : State} (h : s.pool.waiting = []) (w : Claimant) :
    s.leaveWaiting w = s := by
  have hpool : { s.pool with waiting := [] } = s.pool := by rw [← h]
  simp only [State.leaveWaiting, h, List.head?_nil, Option.map_none, List.filter_nil, hpool]
  rfl

theorem State.contextOf_some {s : State} {c : Chan} {i : Context} (h : s.contextOf c = some i) :
    ∃ p, s.context i = some p ∧ p.chan = c := by
  have hfound := List.find?_some (h : (List.finRange 4).find? _ = some i)
  cases hp : s.context i with
  | none => simp [hp] at hfound
  | some p => exact ⟨p, rfl, by simpa [hp] using hfound⟩

/-- The context as the channel it targets halts: paused, unless it is ENDING (R165). -/
def Playback.halted (p : Playback) : Playback :=
  { p with phase := if p.phase = .ending then .ending else .paused }

theorem State.setContext_same {s : State} {i : Context} {x : Option Playback} (h : s.context i = x) :
    s.setContext i x = s := by
  subst h
  have hset : s.store.contexts.set i.val s.store.contexts[i.val] = s.store.contexts :=
    Vector.set_getElem_self _
  show { s with store := { s.store with
    contexts := s.store.contexts.set i.val s.store.contexts[i.val] } } = s
  rw [hset]

section pausing
variable {s : State} {n : Spur} {col : Column} {js : List Job} {c : Chan}

theorem pauseContext_none (h : s.contextOf c = none) :
    pauseContext c (s.at n col js) = s.at n col js := by
  simp only [pauseContext, State.at_contextOf, h]

theorem pauseContext_halts {i : Context} {p : Playback} (hi : s.contextOf c = some i)
    (hp : s.context i = some p) (hw : s.pool.waiting = []) :
    pauseContext c (s.at n col js) = (s.setContext i (some p.halted)).at n col js := by
  have hkeep : p.halted = p → (s.setContext i (some p.halted)) = s := fun h => by
    rw [h]
    exact State.setContext_same hp
  cases hph : p.phase with
  | active =>
    simp only [pauseContext, State.at_contextOf, hi, State.at_context, hp, hph, State.at_setContext,
      Playback.halted]
    rfl
  | waiting =>
    simp only [pauseContext, State.at_contextOf, hi, State.at_context, hp, hph, State.at_setContext,
      Playback.halted]
    rw [State.leaveWaiting_alone (by exact hw)]
    rfl
  | paused =>
    rw [hkeep (by rw [Playback.halted, if_neg (by rw [hph]; decide), ← hph])]
    simp only [pauseContext, State.at_contextOf, hi, State.at_context, hp, hph]
  | ending =>
    rw [hkeep (by rw [Playback.halted, if_pos hph, ← hph])]
    simp only [pauseContext, State.at_contextOf, hi, State.at_context, hp, hph]

end pausing

/-! ### The outbound stall (R62, R63, R85) -/

section stallChannel
variable {s : State} {n : Spur} {col : Column} {js : List Job} {e : Outbound} {l : Link}
  {limit k : Nat} (hl : s.link e.chan = some l) (hn : l.spur = n)
include hl hn

/-- A channel OPEN or HALTED becomes HALTED with cause STALL (R63). -/
theorem stallChannel_live (hlive : l.isDraining = false) : outboundStallChannel e (s.at n col js) =
    let s1 := (s.setLink e.chan (some { l with phase := .halted .stall })).at n col js
    let s2 := if e.origin = .host then s1.countOff e.chan true else s1
    s2.push (tellJobs e ++ [.pauseContext e.chan, .work n]) := by
  subst hn
  unfold Link.isDraining at hlive
  cases hp : l.phase with
  | draining m a b => simp [hp] at hlive
  | opened => simp [outboundStallChannel, hl, hp, State.setPhase]
  | halted why => simp [outboundStallChannel, hl, hp, State.setPhase]

theorem stallChannel_host (hlive : l.isDraining = false) (hd : l.dir = .outbound limit (k + 1))
    (ho : e.origin = .host) : outboundStallChannel e (s.at n col js) =
      (s.relinked e.chan (some { l with phase := .halted .stall, dir := .outbound limit k })
        (s.notices.addCredit e.chan) s.pool s.store).at n col
        (.pauseContext e.chan :: .work n :: js) := by
  have hlink := State.link_setLink s e.chan (some { l with phase := .halted .stall })
  rw [stallChannel_live hl hn hlive]
  simp only [countOff_at, countOff_eq hlink hd, State.setLink_setLink, tellJobs, ho]
  rfl

theorem stallChannel_playback {i : Context} (hlive : l.isDraining = false)
    (ho : e.origin = .playback (some i)) : outboundStallChannel e (s.at n col js) =
      (s.relinked e.chan (some { l with phase := .halted .stall }) s.notices s.pool s.store).at n col
        (.tellContext i :: .pauseContext e.chan :: .work n :: js) := by
  have hhost : ¬ Origin.playback (some i) = .host := Origin.noConfusion
  rw [stallChannel_live hl hn hlive]
  simp only [ho, if_neg hhost, tellJobs, State.at_push]
  rfl

omit hn in
/-- In a drain the stalled parcel counts as discarded and the rest of the channel's parcels follow (R35). -/
theorem stallChannel_drain {m : CloseMode} {a b : Byte} (hp : l.phase = .draining m a b)
    (hd : l.dir = .outbound limit k) : ∃ k', outboundStallChannel e (s.at n col js) =
      (s.relinked e.chan
        (some { l with dir := .outbound limit k', phase := .draining .discard a (satAdd b 1) })
        s.notices s.pool s.store).at n col
        (.discardQueued e.chan :: .drainTest e.chan :: js) := by
  have hlink := State.link_setLink s e.chan (some { l with phase := .draining .discard a b })
  have hlink' := State.link_setLink s e.chan
    (some { l with dir := .outbound limit (k - 1), phase := .draining .discard a b })
  by_cases ho : e.origin = .host
  · refine ⟨k - 1, ?_⟩
    simp only [outboundStallChannel, State.at_link, hl, hp, State.setPhase, ho, decide_true,
      if_true, State.at_setLink, countOff_at, countOff_uncredited hlink hd, State.setLink_setLink, countDrain_at,
      countDrain_draining hlink' rfl, satAdd_zero, State.at_push]
    rfl
  · refine ⟨k, ?_⟩
    simp only [outboundStallChannel, State.at_link, hl, hp, State.setPhase, ho, decide_false,
      State.at_setLink, countDrain_at, countDrain_draining hlink rfl, satAdd_zero, Bool.false_eq_true, if_false,
      State.setLink_setLink, State.at_push, ← hd]
    rfl

end stallChannel

/-- The lane once the parcel on it is abandoned (R62, R85). -/
def Lane.stalled (l : Lane) (x : Sending) : Lane :=
  { l with
    sending := none
    strobe := if x.snap.discipline = .toggle then l.strobe else false
    reference := if x.snap.discipline = .toggle then none else l.reference }

/-- The parcel's storage, its record, and the Channel Map's part (R62, R63). -/
theorem ackExpired_stalls {s u : State} {n : Spur} {col : Column} {js ks : List Job} {x : Sending}
    {t0 : Count16} (hx : col.lane.sending = some x) (ht : x.ackTimer = some t0)
    (hrec : s.engine.records = none)
    (h : outboundStallChannel x.parcel
      (State.at { s with notices := s.notices.arrive (.stall x.parcel.chan x.done) } n
        { col with lane := col.lane.stalled x } (.parcelEnd n :: js)) =
      u.at n { col with lane := col.lane.stalled x } ks) :
    ackExpired n (s.at n col js) =
      State.at { u with pool := u.pool.put false 1 (cellsFor x.parcel.body.length) } n
        { col with lane := col.lane.stalled x } (.serve :: ks) := by
  have hrecord : s.record (.stall x.parcel.chan x.done) =
      { s with notices := s.notices.arrive (.stall x.parcel.chan x.done) } := State.record_now hrec _
  simp only [ackExpired, State.at_lane, hx, ht, Option.isSome_some, if_true, outboundStall,
    State.at_setLane, State.at_record, hrecord, State.at_push, List.cons_append, List.nil_append]
  rw [← State.at_giveBack]
  exact congrArg (fun v : State => v.giveBack false 1 (cellsFor x.parcel.body.length)) h

/-- What an abandoned parcel leaves (R62, R85), once only the lane's decision is left: u is the part as the
decision sees it, and the Channel Map, the Notice Builder, the pool and the store are as given. -/
theorem stall_ended {s u : State} {n : Spur} {x : Sending} {m : Nat} {c : Chan} {lk : Option Link}
    {nb : Notices} {p : Pool} {st : Store} {q : List Outbound} {y : Option Byte} {w : Bool}
    (hs : Settled s) (hst : (s.lane n).state = .sending)
    (hleads : Leads m (ackExpired n (s.at n (s.column n) [.arbiter]))
      ((s.relinked c lk nb p st).at n { s.column n with
        queue := q
        lane := { (s.lane n).stalled x with yieldTimer := y, workSeen := w } }
        [.parcelEnd n, .arbiter])) (hm : m ≤ 900)
    (hq : u.queue n = q) (hl : u.lane n = s.lane n)
    (hi : (s.relinked c lk nb p st).openIn n = u.openIn n)
    (hmap : ∀ e ∈ u.queue n, (s.relinked c lk nb p st).serviceable e = u.serviceable e ∧
      (s.relinked c lk nb p st).inProfile e.chan = u.inProfile e.chan)
    (hb : ∀ e ∈ u.queue n, u.serviceable e = true → e.body ≠ [])
    (hcredit : ∀ d : Chan, d ≠ c → nb.credits[d.val] = s.notices.credits[d.val]) :
    ∃ col, let t := (s.relinked c lk nb p st).setColumn n col
      exec (.ackLimitExpiry n) s = .next t ∧ EndOfParcel u t n ∧
      (∀ d, d ≠ c → t.channel d = s.channel d ∧ t.credit d = s.credit d) ∧
      (t.channel c).parcels = (s.channel c).parcels ∧ (t.channel c).bytes = (s.channel c).bytes ∧
      (t.channel c).drops = (s.channel c).drops ∧
      (∀ k, k ≠ n → t.column k = s.column k) ∧ t.gather n = s.gather n ∧ t.arbiter = s.arbiter ∧
      (u.outWork n = false → u.attentionHeard n = false → (s.lane n).config.home = .outward →
        (t.lane n).strobe =
          if x.snap.discipline = .toggle then (s.lane n).strobe else false) := by
  obtain ⟨col, hend, hparcel, hgather, hstrobe⟩ := Leads.parcelEnds (s := u)
    (u := s.relinked c lk nb p st) (n := n) (col := { s.column n with
        queue := q
        lane := { (s.lane n).stalled x with yieldTimer := y, workSeen := w } }) [.arbiter] hst rfl
    hq.symm (by rw [hl]; exact ⟨rfl, rfl, rfl⟩) hi hmap hb
  have hchan := relinked_channel (s := s) (c := c) (lk := lk) (nb := nb) (p := p) (st := st)
  refine ⟨col, ?_, hparcel, fun d hd => ⟨State.channel_setChannel_ne s hd _, hcredit d hd⟩,
    (congrArg Channel.parcels hchan).trans rfl, (congrArg Channel.bytes hchan).trans rfl,
    (congrArg Channel.drops hchan).trans rfl,
    fun k hk => State.column_setColumn_ne _ hk col, ?_, rfl, fun hwork hatt hhome => ?_⟩
  · exact State.act_at (f := ackExpired n) (k := m + 1) hs (hleads.trans hend) (by omega) rfl rfl
  · rw [State.gather, State.column_setColumn]
    exact hgather
  · rw [State.lane, State.column_setColumn]
    exact hstrobe hwork hatt (by rw [hl]; exact hhome)

/-! #### The context that is told, and the context that pauses -/

/-- The context of a halted channel after the stall of a parcel: the store st' that its pause leaves (R165). -/
theorem Leads.pauses (s : State) (n : Spur) (col : Column) (c : Chan) (hw : s.pool.waiting = []) :
    ∃ st : Store, (s.contextOf c = none → st = s.store) ∧
      (∀ i p, s.contextOf c = some i → s.context i = some p → st = s.store.withContext i (some p.halted)) ∧
      (∀ j, (∀ q, s.context j = some q → q.chan ≠ c) → st.contexts[j.val] = s.context j) ∧
      st.segments = s.store.segments ∧
      ∀ js, Leads 1 (s.at n col (.pauseContext c :: js)) (State.at { s with store := st } n col js) := by
  cases hi : s.contextOf c with
  | none =>
    exact ⟨s.store, fun _ => rfl, fun i p h => by simp at h, fun _ _ => rfl, rfl,
      fun js => .nextAt (pauseContext_none hi) (.of_eq rfl)⟩
  | some i =>
    obtain ⟨p, hp, hchan⟩ := State.contextOf_some hi
    refine ⟨s.store.withContext i (some p.halted), fun h => by simp at h, fun j q hj hq => ?_,
      fun j hj => ?_, rfl, fun js => .nextAt (pauseContext_halts hi hp hw) (.of_eq rfl)⟩
    · obtain rfl : i = j := Option.some.inj hj
      obtain rfl : p = q := Option.some.inj (hp.symm.trans hq)
      rfl
    · refine (Store.withContext_context _ _ _ j).trans (if_neg ?_)
      rintro rfl
      exact hj p hp hchan

theorem Leads.tells_halted {s : State} {n : Spur} {col : Column} {js : List Job} {i : Context}
    {p : Playback} (hp : s.context i = some p) (hgo : ¬ (p.phase = .ending ∧ p.count - 1 = 0))
    (hopen : s.chanOpen p.chan = false) : Leads 2 (s.at n col (.tellContext i :: js))
      ((s.setContext i (some { p with count := p.count - 1 })).at n col js) := by
  by_cases hph : p.phase = .active
  · refine .nextAt (tellContext_tests hp hph) (.nextAt ?_ (.refl 0 _))
    show testContext i _ = _
    have hopen' : (s.setContext i (some { p with count := p.count - 1 })).chanOpen p.chan = false := hopen
    simp [testContext, State.at_context, hopen']
  · exact .nextAt (tellContext_counts hp hph hgo) (.refl 1 _)

theorem State.contextOf_setContext {s : State} {c : Chan} {i : Context} {p p' : Playback}
    (hp : s.context i = some p) (h : p'.chan = p.chan) :
    (s.setContext i (some p')).contextOf c = s.contextOf c := by
  unfold State.contextOf
  congr 1
  funext j
  by_cases hj : j = i
  · subst hj
    simp [hp, h]
  · rw [State.context_setContext_ne s hj]

/-! #### The three standings of the channel (R35, R63) -/

section stalls
variable {s : State} {n : Spur} {x : Sending} {t0 : Count16} {l : Link} {limit k : Nat}
  (hs : Settled s) (hst : (s.lane n).state = .sending) (hx : (s.lane n).sending = some x)
  (ht : x.ackTimer = some t0) (hl : s.link x.parcel.chan = some l) (hn : l.spur = n)
  (hrec : s.engine.records = none)

/-- The part with the Channel Map and the store as given, the Notice Builder, and the storage of the stalled
parcel given back. -/
def State.stalledTo (s : State) (x : Sending) (lk : Option Link) (nb : Notices) (st : Store) : State :=
  s.relinked x.parcel.chan lk nb (s.pool.put false 1 (cellsFor x.parcel.body.length)) st

/-- The column of a lane whose parcel is abandoned, with the timers of the outbound-work condition as given. -/
def Column.stalled (col : Column) (x : Sending) (q : List Outbound) (y : Option Byte) (w : Bool) : Column :=
  { col with queue := q, lane := { col.lane.stalled x with yieldTimer := y, workSeen := w } }

include hs hst hx ht hl hn hrec

theorem stalls_host (hlive : l.isDraining = false) (hd : l.dir = .outbound limit (k + 1))
    (ho : x.parcel.origin = .host) :
    let c := x.parcel.chan
    ∃ st y w, (s.contextOf c = none → st = s.store) ∧
      (∀ i p, s.contextOf c = some i → s.context i = some p → st = s.store.withContext i (some p.halted)) ∧
      Leads 4 (ackExpired n (s.at n (s.column n) [.arbiter]))
        ((s.stalledTo x (some { l with phase := .halted .stall, dir := .outbound limit k })
          ((s.notices.arrive (.stall c x.done)).addCredit c) st).at n
          ((s.column n).stalled x (s.queue n) y w) [.parcelEnd n, .arbiter]) := by
  intro c
  let lk : Link := { l with phase := .halted .stall, dir := .outbound limit k }
  let nb := (s.notices.arrive (.stall c x.done)).addCredit c
  let col : Column := { s.column n with lane := (s.lane n).stalled x }
  obtain ⟨st, hnone, hsome, -, -, hpause⟩ :=
    Leads.pauses (s.stalledTo x (some lk) nb s.store) n col c hs.alone
  obtain ⟨y, w, hwork⟩ := Leads.workBusy (s.stalledTo x (some lk) nb st) n col
    (by rw [show col.lane.state = .sending from hst]; decide)
    (by rw [show col.lane.state = .sending from hst]; decide)
  refine ⟨st, y, w, hnone, hsome, ?_⟩
  have hexp := ackExpired_stalls (n := n) (col := s.column n) (js := [.arbiter]) hx ht hrec
    (stallChannel_host (s := { s with notices := s.notices.arrive (.stall c x.done) }) hl hn hlive hd ho)
  rw [hexp]
  exact .nextAt (serve_alone (by exact hs.alone)) ((hpause _).trans (hwork _))

/-- A playback parcel changes no credit, and its context is told before it pauses (R63, R164). -/
theorem stalls_playback {i : Context} {p : Playback} (hlive : l.isDraining = false)
    (ho : x.parcel.origin = .playback (some i)) (hi : s.contextOf x.parcel.chan = some i)
    (hp : s.context i = some p) :
    let c := x.parcel.chan
    let nb := s.notices.arrive (.stall c x.done)
    ∃ nb' st y w,
      (∀ j, j ≠ i → (∀ q, s.context j = some q → q.chan ≠ c) → st.contexts[j.val] = s.context j) ∧
      (¬ (p.phase = .ending ∧ p.count - 1 = 0) → nb' = nb ∧
        st.contexts[i.val] = some { p with
          count := p.count - 1, phase := if p.phase = .ending then .ending else .paused }) ∧
      (p.phase = .ending ∧ p.count - 1 = 0 → nb' = nb.arrive (.playend p.chan p.handle .done) ∧
        st.contexts[i.val] = none ∧ st.segments = (s.store.ended i p.handle).segments) ∧
      Leads 6 (ackExpired n (s.at n (s.column n) [.arbiter]))
        ((s.stalledTo x (some { l with phase := .halted .stall }) nb' st).at n
          ((s.column n).stalled x (s.queue n) y w) [.parcelEnd n, .arbiter]) := by
  intro c nb
  let lk : Link := { l with phase := .halted .stall }
  let col : Column := { s.column n with lane := (s.lane n).stalled x }
  have hbusy : col.lane.state ≠ .idleOut ∧ col.lane.state ≠ .idleIn := by
    rw [show col.lane.state = .sending from hst]
    decide
  have hexp := ackExpired_stalls (n := n) (col := s.column n) (js := [.arbiter]) hx ht hrec
    (stallChannel_playback (s := { s with notices := nb }) hl hn hlive ho)
  by_cases hend : p.phase = .ending ∧ p.count - 1 = 0
  · let nb' := nb.arrive (.playend p.chan p.handle .done)
    obtain ⟨st, -, -, hothers, hsegments, hpause⟩ := Leads.pauses
      (s.stalledTo x (some lk) nb' (s.store.ended i p.handle)) n col c hs.alone
    obtain ⟨y, w, hwork⟩ := Leads.workBusy (s.stalledTo x (some lk) nb' st) n col hbusy.1 hbusy.2
    have htold : tellContext i ((s.stalledTo x (some lk) nb s.store).at n col
        [.pauseContext c, .work n, .parcelEnd n, .arbiter]) =
          (s.stalledTo x (some lk) nb' (s.store.ended i p.handle)).at n col
            [.pauseContext c, .work n, .parcelEnd n, .arbiter] :=
      tellContext_ends (by exact hp) hend.1 hend.2 hrec
    refine ⟨nb', st, y, w, fun j hj hother => ?_, fun h => absurd hend h, fun _ => ⟨rfl, ?_, ?_⟩, ?_⟩
    · have hsame : (s.store.ended i p.handle).contexts[j.val] = s.context j :=
        (Store.ended_context _ _ _ j).trans (if_neg hj)
      exact (hothers j fun q hq => hother q (hsame.symm.trans hq)).trans hsame
    · have hgone : (s.store.ended i p.handle).contexts[i.val] = none :=
        (Store.ended_context _ _ _ i).trans (if_pos rfl)
      exact (hothers i fun q hq => by cases hgone.symm.trans hq).trans hgone
    · exact hsegments
    · rw [hexp]
      exact .nextAt (serve_alone (by exact hs.alone))
        (.nextAt htold (((hpause _).trans (hwork _)).trans (.refl 1 _)))
  · let p' : Playback := { p with count := p.count - 1 }
    obtain ⟨st, -, hsome, hothers, -, hpause⟩ := Leads.pauses
      (s.stalledTo x (some lk) nb (s.store.withContext i (some p'))) n col c hs.alone
    obtain ⟨y, w, hwork⟩ := Leads.workBusy (s.stalledTo x (some lk) nb st) n col hbusy.1 hbusy.2
    have hclosed : (s.stalledTo x (some lk) nb s.store).chanOpen p.chan = false := by
      obtain ⟨q, hq, hchan⟩ := State.contextOf_some hi
      obtain rfl : p = q := Option.some.inj (hp.symm.trans hq)
      have hlink : (s.stalledTo x (some lk) nb s.store).link c = some lk := relinked_link
      rw [hchan, State.chanOpen, hlink]
      rfl
    have htold : Leads 2 ((s.stalledTo x (some lk) nb s.store).at n col
        [.tellContext i, .pauseContext c, .work n, .parcelEnd n, .arbiter])
          ((s.stalledTo x (some lk) nb (s.store.withContext i (some p'))).at n col
            [.pauseContext c, .work n, .parcelEnd n, .arbiter]) :=
      .tells_halted (by exact hp) hend hclosed
    refine ⟨nb, st, y, w, fun j hj hother => ?_, fun _ => ⟨rfl, ?_⟩, fun h => absurd h hend, ?_⟩
    · have hsame : (s.store.withContext i (some p')).contexts[j.val] = s.context j :=
        (Store.withContext_context _ _ _ j).trans (if_neg hj)
      exact (hothers j fun q hq => hother q (hsame.symm.trans hq)).trans hsame
    · rw [hsome i p' ((State.contextOf_setContext (s := s) (p' := p') hp rfl).trans hi)
        ((Store.withContext_context _ _ _ i).trans (if_pos rfl))]
      exact (Store.withContext_context _ _ _ i).trans (if_pos rfl)
    · rw [hexp]
      exact .nextAt (serve_alone (by exact hs.alone)) (htold.trans ((hpause _).trans (hwork _)))

/-- In a drain the channel's queued parcels follow, and the drain completes (R35, R38, R39). -/
theorem stalls_drain {m : CloseMode} {a b : Byte} (hp : l.phase = .draining m a b)
    (hd : l.dir = .outbound limit k) :
    let c := x.parcel.chan
    let gone := (s.queue n).filter fun e => e.chan = c
    ∃ y w, Leads 9 (ackExpired n (s.at n (s.column n) [.arbiter]))
        ((s.relinked c none
          (((s.notices.arrive (.stall c x.done)).arrive
            (.shut c a (satAdd b (gone.length + 1)))).clearCredit c)
          ((s.pool.put false 1 (cellsFor x.parcel.body.length)).put false gone.length
            ((gone.map fun e => cellsFor e.body.length).sum)) s.store).at n
          ((s.column n).stalled x ((s.queue n).filter fun e => e.chan ≠ c) y w)
          [.parcelEnd n, .arbiter]) := by
  intro c gone
  let nb := s.notices.arrive (.stall c x.done)
  let p1 := s.pool.put false 1 (cellsFor x.parcel.body.length)
  let p2 := p1.put false gone.length ((gone.map fun e => cellsFor e.body.length).sum)
  obtain ⟨k', hchannel⟩ := stallChannel_drain (s := { s with notices := nb }) (n := n)
    (col := { s.column n with lane := (s.lane n).stalled x }) (js := [.parcelEnd n, .arbiter]) hl hp hd
  have hexp := ackExpired_stalls (n := n) (col := s.column n) (js := [.arbiter]) hx ht hrec hchannel
  let l1 : Link := { l with dir := .outbound limit k', phase := .draining .discard a (satAdd b 1) }
  let col : Column := { s.column n with lane := (s.lane n).stalled x }
  let col1 : Column := { col with queue := (s.queue n).filter fun e => e.chan ≠ c }
  let l2 : Link := { l1 with
    dir := .outbound limit (k' - (gone.filter fun e => e.origin = .host).length)
    phase := .draining .discard a (satAdd (satAdd b 1) gone.length) }
  have hgone : discardQueued c ((s.relinked c (some l1) nb p1 s.store).at n col
      [.drainTest c, .parcelEnd n, .arbiter]) = (s.relinked c (some l2) nb p2 s.store).at n col1
        [.serve, .work n, .drainTest c, .parcelEnd n, .arbiter] :=
    (discardQueued_at (l := l1) relinked_link rfl rfl hn).trans
      (congrArg (fun v : State => v.at n col1 _) relinked_relinked)
  have hbusy : ∀ y w, ({ col1.lane with yieldTimer := y, workSeen := w } : Lane).state ≠ .idleOut ∧
      ({ col1.lane with yieldTimer := y, workSeen := w } : Lane).state ≠ .idleIn := by
    intro y w
    rw [show ({ col1.lane with yieldTimer := y, workSeen := w } : Lane).state = .sending from hst]
    decide
  let nb2 := (nb.arrive (.shut c a (satAdd (satAdd b 1) gone.length))).clearCredit c
  obtain ⟨y, w, hwork⟩ := Leads.workBusy (s.relinked c (some l2) nb p2 s.store) n col1
    (hbusy none true).1 (hbusy none true).2
  let col2 : Column := { col1 with lane := { col1.lane with yieldTimer := y, workSeen := w } }
  obtain ⟨y', w', hwork'⟩ := Leads.workBusy (s.relinked c none nb2 p2 s.store) n col2
    (hbusy y w).1 (hbusy y w).2
  have hothers : ∀ e ∈ (s.queue n).filter fun e => e.chan ≠ c, e.chan ≠ c := by simp
  have hdrain : drainTest c ((s.relinked c (some l2) nb p2 s.store).at n col2
      [.parcelEnd n, .arbiter]) = (s.relinked c none nb2 p2 s.store).at n col2
        [.work n, .decide n, .parcelEnd n, .arbiter] :=
    (drainTest_completes (l := l2) relinked_link rfl hn
      hothers (fun y hy => by cases hy)
      (fun hin => by cases hin) hrec).trans
      (congrArg (fun v : State => v.at n col2 _)
        (relinked_setLink (s := s) (lk := some l2) (nb := nb2) (p := p2) (st := s.store)))
  have hdecide : ∀ v : State, v = (s.relinked c none nb2 p2 s.store).at n
      { col2 with lane := { col2.lane with yieldTimer := y', workSeen := w' } }
        [.parcelEnd n, .arbiter] → decideLane n v = v := by
    rintro v rfl
    refine decideLane_busy ?_ ?_ <;> rw [State.at_lane]
    · exact (hbusy y' w').1
    · exact (hbusy y' w').2
  refine ⟨y', w', ?_⟩
  rw [hexp, Nat.add_comm gone.length 1, ← satAdd_satAdd]
  refine .nextAt (serve_alone (by exact hs.alone)) (.nextAt hgone (.nextAt (serve_alone (by exact hs.alone))
    ((hwork [.drainTest c, .parcelEnd n, .arbiter]).trans (.nextAt (j := .drainTest c) hdrain
      ((hwork' [.decide n, .parcelEnd n, .arbiter]).trans
        (.nextAt (j := .decide n) (hdecide _ rfl) (.refl 0 _)))))))

end stalls

/-! ### The inbound stall (R88, R92, R110) -/

/-- A channel that keeps its spur and its direction leaves each spur its IN channel (R71). -/
theorem State.inChan_setLink {s : State} {c : Chan} {l l' : Link} (hl : s.link c = some l)
    (hspur : l'.spur = l.spur) (hin : l'.isIn = l.isIn) (n : Spur) :
    (s.setLink c (some l')).inChan n = s.inChan n := by
  unfold State.inChan
  congr 1
  funext d
  by_cases hd : d = c
  · rw [hd, State.link_setLink, hl]
    simp only [hspur, hin]
  · rw [State.link_setLink_ne _ hd]

/-- A channel that leaves OPEN is no OPEN IN channel of its spur any more (R71). -/
theorem State.openIn_closed {s : State} {n : Spur} {c : Chan} {l l' : Link} (hc : s.inChan n = some c)
    (hl : s.link c = some l) (hspur : l'.spur = l.spur) (hin : l'.isIn = l.isIn)
    (hopen : l'.isOpen = false) : (s.setLink c (some l')).openIn n = none := by
  have hchan := (State.inChan_setLink hl hspur hin n).trans hc
  simp [State.openIn, hchan, hopen]

/-- A channel that leaves OPEN brings no outbound work (R54). -/
theorem State.outWork_closed {s : State} {c : Chan} {l : Link} (hopen : l.isOpen = false)
    (hdrain : l.isDraining = false) {q : List Outbound} (hq : q.any s.serviceable = false) :
    q.any (s.setLink c (some l)).serviceable = false := by
  rw [List.any_eq_false] at hq ⊢
  intro e he
  by_cases hd : e.chan = c
  · simp [State.serviceable, hd, hopen, hdrain]
  · rw [State.serviceable, State.link_setLink_ne _ hd]
    exact hq e he

/-- The decision in IDLE_IN with no OPEN IN channel and nothing gathered (R73, R76). -/
theorem decideIn_closed {s : State} {n : Spur} {col : Column} {js : List Job} (hopen : s.openIn n = none)
    (hg : col.gather.isPartial = false) : decideIn n (s.at n col js) =
      if col.lane.yieldDue = true then s.at n col (.yieldOut n :: js)
      else if col.queue.any s.serviceable = true ∨ col.lane.config.home = .outward then
        s.at n { col with lane := { col.lane.stopped.turning .turnOut with yieldTimer := none } } js
      else s.at n col js := by
  have hdeaf : (s.at n col js).attentionHeard n = false := by
    rw [State.at_attentionHeard, hopen, Option.isSome_none, Bool.and_false]
  simp only [decideIn, State.at_lane, State.at_gather, hg, hdeaf, State.at_outWork, State.at_openIn, hopen,
    turnOut_at, State.at_push]
  cases col.lane.yieldDue <;> cases col.queue.any s.serviceable <;> simp

/-- A lane that enters IDLE_IN with no OPEN IN channel and nothing gathered (R73, R74, R76). -/
theorem Leads.idleIn_closed {s : State} {n : Spur} {col : Column} (hopen : s.openIn n = none)
    (hg : col.gather.isPartial = false) (hst : col.lane.state = .receiving)
    (hr : col.lane.receiving = none) : ∃ l : Lane,
      (∀ js, Leads 3 (s.at n col (.idleIn n :: js)) (s.at n { col with lane := l } js)) ∧
      l.receiving = none ∧ (col.lane.inSnap = none → l.inSnap = none) ∧
      (col.lane.config.home = .outward → l.state = .turnOut) ∧
      (col.lane.config.home = .inward → col.queue.any s.serviceable = false →
        col.lane.yieldDue = false → l.state = .idleIn) := by
  let w := col.queue.any s.serviceable
  let l1 : Lane := { col.lane with state := .idleIn, workSeen := w }.synced w
  have hl1 : l1.state = .idleIn ∧ l1.receiving = none ∧ l1.inSnap = col.lane.inSnap ∧
      l1.config = col.lane.config ∧ l1.yieldDue = col.lane.yieldDue := by
    unfold l1 Lane.synced
    split
    · split <;> exact ⟨rfl, hr, rfl, rfl, rfl⟩
    · exact ⟨rfl, hr, rfl, rfl, rfl⟩
  obtain ⟨hst1, hr1, hin1, hconfig1, hdue1⟩ := hl1
  have henter : ∀ js, idleIn n (s.at n col js) =
      decideIn n (s.at n { col with lane := l1 } (.takeBeats n :: js)) := by
    intro js
    simp only [idleIn, State.at_lane]
    rw [if_pos ⟨.inl hst, hr⟩, enterIdle_at, State.at_push, syncYield_at]
    rfl
  have htakes : ∀ l js, doJob (.takeBeats n) (s.at n { col with lane := l } js) =
      s.at n { col with lane := l } js := fun l js => takeBeats_closed hopen
  have hdecide := fun js => (henter js).trans (decideIn_closed (col := { col with lane := l1 }) hopen hg)
  by_cases hdue : l1.yieldDue = true
  · refine ⟨l1.yielded, fun js => .nextAt ((hdecide js).trans (if_pos hdue))
      (.nextAt (yieldOut_at hst1 hdue) (.nextAt (htakes _ js) (.refl 0 _))), hr1, fun _ => rfl,
      fun _ => rfl, fun _ _ h => ?_⟩
    rw [← hdue1, hdue] at h
    cases h
  · by_cases hturn : w = true ∨ col.lane.config.home = .outward
    · refine ⟨{ l1.stopped.turning .turnOut with yieldTimer := none },
        fun js => .nextAt ((hdecide js).trans ((if_neg hdue).trans (if_pos (hconfig1.symm ▸ hturn))))
          (.nextAt (htakes _ js) (.refl 1 _)), hr1, fun _ => rfl, fun _ => rfl, fun hhome hwork _ => ?_⟩
      rcases hturn with h | h
      · rw [show w = false from hwork] at h
        cases h
      · rw [hhome] at h
        cases h
    · exact ⟨l1, fun js => .nextAt
        ((hdecide js).trans ((if_neg hdue).trans (if_neg (hconfig1.symm ▸ hturn))))
          (.nextAt (htakes _ js) (.refl 1 _)), hr1, fun h => hin1.trans h,
        fun h => absurd (.inr h) hturn, fun _ _ _ => hst1⟩

/-- Storage given back with nobody waiting for the pool. -/
theorem Leads.served {m : Nat} {u t : State} {n : Spur} {col : Column} {js ks : List Job}
    (hks : ks = [] ∨ ks = [.serve]) (hw : u.pool.waiting = []) (h : Leads m (u.at n col js) t) :
    Leads (m + 1) (u.at n col (ks ++ js)) t := by
  rcases hks with rfl | rfl
  · obtain ⟨i, hi, hrun⟩ := h
    exact ⟨i, by omega, hrun⟩
  · exact .nextAt (serve_alone (by exact hw)) h

section expiry
variable {s : State} {n : Spur} {col : Column} {js : List Job} {x : Receiving} {c : Chan}

theorem ackExpired_receiving {t0 : Count16} (hs : col.lane.sending = none)
    (hr : col.lane.receiving = some x) (ht : x.ackTimer = some t0) :
    ackExpired n (s.at n col js) = inboundExpiry n x (s.at n col js) := by
  simp only [ackExpired, State.at_lane, hs, hr, ht, Option.isSome_some, if_true]

/-- The gather is discarded, and its storage given back (R88, R110). -/
theorem inboundExpiry_stalls (hc : s.openIn n = some c) (ht : x.tests = true) :
    ∃ p ks, (ks = [] ∨ ks = [.serve]) ∧ p.waiting = s.pool.waiting ∧
      (∀ c' cls bs, col.gather.state = .filling c' cls bs → p = s.pool.put false 1 (cellsFor bs.length)) ∧
      (∀ m, col.gather.state = .losing m → p = s.pool) ∧
      inboundExpiry n x (s.at n col js) = State.at { s with pool := p } n
        { col with
          lane := { col.lane with receiving := none }
          gather := { col.gather with state := .empty, idleTimer := none } }
        (ks ++ .inboundStall n c col.gather.count :: js) := by
  have hfilling : ∀ c' cls bs, col.gather.state = .filling c' cls bs → ∀ p,
      p = s.pool.put false 1 (cellsFor bs.length) → inboundExpiry n x (s.at n col js) =
        State.at { s with pool := p } n
          { col with
            lane := { col.lane with receiving := none }
            gather := { col.gather with state := .empty, idleTimer := none } }
          (.serve :: .inboundStall n c col.gather.count :: js) := by
    rintro c' cls bs hg p rfl
    simp only [inboundExpiry, State.at_openIn, hc, ht, if_true, State.at_lane, State.at_setLane,
      State.at_gather, State.at_setGather, State.at_push, hg]
    rfl
  have helse : (∀ c' cls bs, col.gather.state ≠ .filling c' cls bs) →
      inboundExpiry n x (s.at n col js) = s.at n
        { col with
          lane := { col.lane with receiving := none }
          gather := { col.gather with state := .empty, idleTimer := none } }
        (.inboundStall n c col.gather.count :: js) := by
    intro hno
    cases hg : col.gather.state with
    | filling c' cls bs => exact absurd hg (hno c' cls bs)
    | _ =>
      simp only [inboundExpiry, State.at_openIn, hc, ht, if_true, State.at_lane, State.at_setLane,
        State.at_gather, State.at_setGather, State.at_push, hg]
      rfl
  cases hg : col.gather.state with
  | empty => exact ⟨s.pool, [], .inl rfl, rfl, nofun, nofun, helse (by simp [hg])⟩
  | filling c' cls bs =>
    refine ⟨s.pool.put false 1 (cellsFor bs.length), [.serve], .inr rfl, rfl, ?_, nofun,
      hfilling c' cls bs hg _ rfl⟩
    rintro - - - ⟨⟩
    rfl
  | losing m => exact ⟨s.pool, [], .inl rfl, rfl, nofun, fun _ _ => rfl, helse (by simp [hg])⟩

/-- The record, the halt with cause STALL, and the return to IDLE_IN (R88). -/
theorem inboundStallRest_halts {l : Link} (hl : s.link c = some l) (hrec : s.engine.records = none)
    (k : Nat) : inboundStallRest n c k (s.at n col js) =
      (s.relinked c (some { l with phase := .halted .stall }) (s.notices.arrive (.stall c k)) s.pool
        s.store).at n { col with lane := col.lane.stopped } (.idleIn n :: js) := by
  have hrecord : s.record (.stall c k) = { s with notices := s.notices.arrive (.stall c k) } :=
    State.record_now hrec _
  have hphase : State.setPhase { s with notices := s.notices.arrive (.stall c k) } c (.halted .stall) =
      s.relinked c (some { l with phase := .halted .stall }) (s.notices.arrive (.stall c k)) s.pool
        s.store := by
    have hl' : ({ s with notices := s.notices.arrive (.stall c k) } : State).link c = some l := hl
    simp only [State.setPhase, hl']
    rfl
  simp only [inboundStallRest, State.at_record, hrecord, setPhase_at, hphase, stopTaking_at, State.at_push]
  rfl

/-- Where the channel has left OPEN, the beat ends without a closure test (R92). -/
theorem inboundExpiry_ends (hc : s.openIn n = none) : inboundExpiry n x (s.at n col js) =
    s.at n { col with lane := { col.lane with receiving := some { x with tests := false } } }
      (.beatEnd n :: js) := by
  simp only [inboundExpiry, State.at_openIn, hc, State.at_lane, State.at_setLane, State.at_push]
  rfl

theorem beatEnd_untested (hc : s.inChan n = some c) (hr : col.lane.receiving = some x)
    (ht : x.tests = false) : beatEnd n (s.at n col js) =
      s.at n { col with lane := col.lane.beatEnded } (.drainTest c :: .idleIn n :: js) := by
  simp [beatEnd, hr, ht, hc, Lane.beatEnded]

end expiry

theorem Notices.arrive_arrive {nb : Notices} (h : nb.fifo.length < 47) (a b : Record) :
    (nb.arrive a).arrive b = { nb with fifo := nb.fifo ++ [a, b] } := by
  have hone : nb.fifo.length < Config.fifoDepth := by
    show nb.fifo.length < 48
    omega
  have htwo : (nb.fifo ++ [a]).length < Config.fifoDepth := by
    rw [List.length_append]
    show nb.fifo.length + 1 < 48
    omega
  rw [Notices.arrive_room hone, Notices.arrive_room (by exact htwo), List.append_assoc]
  rfl

/-- Settles O54. -/
theorem ackLimitStalls : Obligations.AckLimitStalls := by
  unfold Obligations.AckLimitStalls
  refine ⟨fun s n x t0 l hs hst hx ht hl hn hrec hroom => ?_, fun s n x t0 hs hst hsend hx ht hrec => ?_⟩
  · intro c stall back ended noMarker
    have hstall : s.notices.arrive stall = { s.notices with fifo := s.notices.fifo ++ [stall] } :=
      Notices.arrive_room hroom _
    have hmap : ∀ (lk : Option Link) (nb : Notices) (p : Pool) (st : Store),
        (s.setLink c lk).SameMap (s.relinked c lk nb p st) := fun _ _ _ _ => .of_links (fun _ => rfl) rfl
    have hlive : ∀ {lk : Option Link} {nb : Notices} {st : Store} {y : Option Byte} {w : Bool} {m : Nat},
        Leads m (ackExpired n (s.at n (s.column n) [.arbiter])) ((s.stalledTo x lk nb st).at n
          ((s.column n).stalled x (s.queue n) y w) [.parcelEnd n, .arbiter]) → m ≤ 900 →
        (∀ d : Chan, d ≠ c → nb.credits[d.val] = s.notices.credits[d.val]) →
        noMarker (s.setLink c lk) →
        ∃ col, ended (s.setLink c lk) ((s.stalledTo x lk nb st).setColumn n col) := by
      intro lk nb st y w m hleads hm hcredit hb
      exact stall_ended (u := s.setLink c lk) hs hst hleads hm rfl rfl ((hmap _ _ _ _).openIn n)
        (fun e _ => ⟨congrFun (hmap _ _ _ _).serviceable e, (hmap _ _ _ _).inProfile e.chan⟩) hb hcredit
    refine ⟨fun limit k ho hopen hd => ?_, fun i p ho hopen hi hp => ?_, fun m a b limit k hp hd hroom' => ?_⟩
    · intro h u hb
      obtain ⟨st, y, w, hnone, hsome, hleads⟩ := stalls_host hs hst hx ht hl hn hrec hopen hd ho
      have hcredit : ∀ d : Chan, ((s.notices.arrive stall).addCredit c).credits[d.val] =
          s.notices.credits[d.val] + if d = c then 1 else 0 := fun d => by
        rw [Notices.addCredit_credit, Notices.arrive_credits]
      obtain ⟨col, hended⟩ := hlive hleads (by norm_num)
        (fun d hd => by rw [hcredit, if_neg hd, Nat.add_zero]) hb
      refine ⟨_, hended, State.link_setLink s c _, ?_, congrArg Notices.fifo hstall, rfl, hnone,
        fun i p hi hp => ?_⟩
      · exact (hcredit c).trans (by rw [if_pos rfl]; rfl)
      · have hst : st = _ := hsome i p hi hp
        show st.contexts[i.val] = _
        rw [hst]
        exact (Store.withContext_context _ _ _ i).trans (if_pos rfl)
    · intro h u hb
      obtain ⟨nb, st, y, w, hothers, hgoes, hends, hleads⟩ :=
        stalls_playback hs hst hx ht hl hn hrec hopen ho hi hp
      have hnb : nb.credits = s.notices.credits := by
        by_cases hend : p.phase = .ending ∧ p.count - 1 = 0
        · rw [(hends hend).1, Notices.arrive_credits, Notices.arrive_credits]
        · rw [(hgoes hend).1, Notices.arrive_credits]
      obtain ⟨col, hended⟩ := hlive hleads (by norm_num) (fun d _ => by rw [hnb]) hb
      refine ⟨_, hended, State.link_setLink s c _, congrArg (fun v : Vector Nat 47 => v[c.val]) hnb, rfl,
        hothers,
        fun hgo => ?_, fun h1 h2 hroom' => ?_⟩
      · obtain ⟨hnotices, hcontext⟩ := hgoes fun hend => by
          rcases hgo with hgo | hgo
          · exact hgo hend.1
          · omega
        exact ⟨hcontext, hnotices.trans hstall⟩
      · obtain ⟨hnotices, hcontext, hsegments⟩ := hends ⟨h1, by omega⟩
        refine ⟨hcontext, ?_, fun g hg => ?_⟩
        · exact hnotices.trans (Notices.arrive_arrive hroom' _ _)
        · show st.segments[p.handle.val] = _
          rw [hsegments]
          exact Store.ended_segment hg i
    · intro gone u hb
      obtain ⟨y, w, hleads⟩ := stalls_drain hs hst hx ht hl hn hrec hp hd
      let nb := ((s.notices.arrive stall).arrive (.shut c a (satAdd b (gone.length + 1)))).clearCredit c
      have hcredit : ∀ d : Chan, nb.credits[d.val] = if d = c then 0 else s.notices.credits[d.val] := by
        intro d
        rw [Notices.clearCredit_credit, Notices.arrive_credits, Notices.arrive_credits]
      have hsame : u.SameMap (s.relinked c none nb
          (back.put false gone.length ((gone.map fun e => cellsFor e.body.length).sum)) s.store) :=
        .of_links (fun _ => rfl) rfl
      have hcolumn : u.column n = { s.column n with queue := (s.queue n).filter fun e => e.chan ≠ c } :=
        State.column_setColumn _ _ _
      obtain ⟨col, hended⟩ := stall_ended (u := u) hs hst hleads (by norm_num)
        (by rw [State.queue, hcolumn]) (by rw [State.lane, hcolumn]; rfl) (hsame.openIn n)
        (fun e _ => ⟨congrFun hsame.serviceable e, hsame.inProfile e.chan⟩) hb
        (fun d hd => by rw [hcredit, if_neg hd])
      refine ⟨_, hended, State.link_setLink s c _, (hcredit c).trans (if_pos rfl), ?_, rfl, rfl⟩
      exact congrArg Notices.fifo (Notices.arrive_arrive hroom' _ _)
  · refine ⟨fun c l hc hl htests => ?_, fun c l hc hl hopen hdrain hg => ?_⟩
    · obtain ⟨hin, l', hl', hisopen⟩ := State.openIn_some hc
      obtain rfl : l = l' := Option.some.inj (hl.symm.trans hl')
      obtain ⟨p, ks, hks, hwait, hfilling, hlosing, hexpiry⟩ := inboundExpiry_stalls (s := s) (n := n)
        (col := s.column n) (js := [.arbiter]) hc htests
      let h : Link := { l with phase := .halted .stall }
      let u := s.relinked c (some h) (s.notices.arrive (.stall c (s.gather n).count)) p s.store
      let g : Gather := { s.gather n with state := .empty, idleTimer := none }
      let col : Column := { s.column n with
        lane := { s.lane n with receiving := none }.stopped, gather := g }
      have hclosed : u.openIn n = none := State.openIn_closed (s := s) hin hl rfl rfl rfl
      obtain ⟨l', hidle, hr', hin', hout', hstay'⟩ := Leads.idleIn_closed (s := u) (n := n) (col := col)
        hclosed rfl hst rfl
      let t := u.setColumn n { col with lane := l' }
      have hlane : t.lane n = l' := by rw [State.lane, State.column_setColumn]
      have hgather : t.gather n = g := by rw [State.gather, State.column_setColumn]
      have hchan : t.channel c = { s.channel c with link := some h } := State.channel_setChannel s c _
      refine ⟨t, ?_, State.link_setLink s c _, fun d hd => State.link_setLink_ne s hd _, rfl, ?_, ?_,
        hfilling, hlosing, ?_, ?_, ?_, ?_, rfl, rfl, fun hhome hwork hdue => ?_, fun hhome => ?_⟩
      · refine State.act_at (f := ackExpired n) (k := 5) (u := u) hs ?_ (by norm_num) rfl rfl
        rw [ackExpired_receiving (by exact hsend) (by exact hx) ht, hexpiry]
        exact .served (u := { s with pool := p }) hks (hwait.trans hs.alone)
          (.nextAt (inboundStallRest_halts (s := { s with pool := p }) hl hrec _) (hidle _))
      · rw [hgather]
      · rw [hgather]
      · rw [hlane]; exact hr'
      · rw [hlane]; exact hin' rfl
      · rw [hchan]
      · rw [hchan]
      · rw [hlane]
        exact hstay' hhome (State.outWork_closed (s := s) rfl rfl hwork) hdue
      · rw [hlane]
        exact hout' hhome
    · have hclosed : s.openIn n = none := by simp [State.openIn, hc, hl, hopen]
      let col : Column := { s.column n with
        lane := { s.lane n with receiving := some { x with tests := false } } }
      obtain ⟨l', hidle, hr', -⟩ := Leads.idleIn_closed (s := s) (n := n)
        (col := { col with lane := col.lane.beatEnded }) hclosed (Gather.isPartial_false hg) hst rfl
      refine ⟨s.setColumn n { col with lane := l' }, ?_, ?_, rfl, rfl, rfl, rfl, ?_⟩
      · refine State.act_at (f := ackExpired n) (k := 6) (u := s) hs ?_ (by norm_num) rfl rfl
        rw [ackExpired_receiving (by exact hsend) (by exact hx) ht, inboundExpiry_ends hclosed]
        exact .nextAt
          (u := s.at n { col with lane := col.lane.beatEnded } [.drainTest c, .idleIn n, .arbiter])
          (beatEnd_untested hc rfl rfl)
          (.nextAt (drainTest_live (by exact hl) hdrain) ((hidle _).trans (.refl 1 _)))
      · rw [State.lane, State.column_setColumn]
        exact hr'
      · rw [State.gather, State.column_setColumn]
        exact hg

end Sys2Proof.Machine
end

section
/-! The end of a turnaround (04, sections 4.2 and 4.3), and the emission of a playback's entry (08, section
8.5) onto a lane that is busy. -/

namespace Sys2Proof.Machine

-- the proofs are elaborated one after another: all at once they ask for too many threads
set_option Elab.async false

/-! ### The turnaround to IDLE_OUT (R69, R72) -/

theorem heeds_quiet {s : State} {n : Spur} {l : Lane} (h : l.atn = false) : s.heeds n l = false := by
  rw [State.heeds, h, Bool.false_and, Bool.false_and, Bool.false_and]

theorem decideLane_at_idleOut {s : State} {n : Spur} {col : Column} {js : List Job}
    (h : col.lane.state = .idleOut) :
    decideLane n (s.at n col js) = decideOut n (s.at n col js) :=
  decideLane_idleOut (by rw [State.at_lane]; exact h)

theorem decideOut_idlesOut {s : State} {n : Spur} {col : Column} {js : List Job}
    (h : s.heeds n col.lane = false) (hq : col.queue.any s.serviceable = false)
    (hhome : col.lane.config.home = .outward) : decideOut n (s.at n col js) =
      s.at n { col with lane := { col.lane with yieldOwed := false } } js :=
  (decideOut_idles h hq).trans (if_neg (by rw [hhome]; decide))

/-- A parcel of length 0 completes at once (R58). -/
theorem startParcel_empty {s : State} {n : Spur} {col : Column} {js : List Job} {e : Outbound}
    (h : e.body = []) : startParcel n e (s.at n col js) = completeParcel n e
      (s.at n { col with lane := { col.lane with state := .sending } } js) := by
  simp only [startParcel, State.at_lane, State.at_setLane, if_pos h]

/-- The lane once its turnaround to IDLE_OUT has ended (R69). -/
def Lane.facingOut (l : Lane) (work : Bool) : Lane :=
  { l with guardTimer := none, drive := some 0, state := .idleOut, workSeen := work }

/-- The end of the turnaround, up to the decision that follows it. -/
theorem exec_turnOutComplete {s u : State} {n : Spur} {col : Column} {m : Nat} (hs : Settled s)
    (hst : (s.lane n).state = .turnOut)
    (h : Leads m (decideOut n (s.at n { s.column n with
      lane := (s.lane n).facingOut (s.outWork n) } [.arbiter])) (u.at n col [.arbiter]))
    (hm : m ≤ 900) (htx : u.tx = s.tx) (ha : u.agenda = s.agenda) :
    exec (.turnOutComplete n) s = .next (u.setColumn n col) := by
  refine State.act_at (f := turnOutDone n) (k := m + 1) hs ?_ (by omega) htx ha
  rw [turnOutDone_at (by exact hst)]
  exact .nextAt (decideLane_at_idleOut rfl) h

/-- Settles O55. -/
theorem turnaroundsComplete : Obligations.TurnaroundsComplete := by
  unfold Obligations.TurnaroundsComplete
  intro s n hs l
  refine ⟨fun hst hr hhome hdue hwork hin => ?_, fun hst hhome hatn => ?_⟩
  · intro idle
    have hends : ∀ col, takeBeats n (s.at n { s.column n with lane := idle } [.arbiter]) =
        s.at n col [.arbiter] → exec (.turnInComplete n) s = .next (s.setColumn n col) :=
      fun col h => exec_turnInComplete hs hst hr hhome hdue hwork h
    have hbegins : ∀ c, s.openIn n = some c → exec (.turnInComplete n) s = .next (s.setColumn n
        ((({ s.column n with lane := idle } : Column).snapped (s.inProfile c)).begun (s.inProfile c))) :=
      fun c hc => hends _ (takeBeats_begins rfl hc hin)
    refine ⟨fun hnone => hends _ (takeBeats_closed hnone), fun c hc hd => ?_, fun c hc hd => ?_,
      fun c hc hd => ?_⟩
    all_goals
      rw [hbegins c hc]
      simp only [Column.begun, hd, Column.snapped, Discipline.lossy]
    · split <;> rfl
    · rfl
    · rfl
  · have hquiet : ∀ (u : State) (w : Bool), u.heeds n (l.facingOut w) = false := fun u w => heeds_quiet hatn
    refine ⟨fun hwork => ?_, fun held e rest hq hh he hb => ?_,
      fun held e rest k limit out hq hh hb ho hk hopen hdir => ?_⟩
    · have hidles := decideOut_idlesOut (s := s) (n := n) (js := [.arbiter])
        (col := { s.column n with lane := l.facingOut (s.outWork n) }) (hquiet s _) hwork hhome
      refine (exec_turnOutComplete (m := 0) hs hst (.of_eq hidles) (by norm_num) rfl rfl).trans ?_
      rw [hwork]
      rfl
    · have hbusy := decideOut_takes (s := s) (n := n) (js := [.arbiter])
        (col := { s.column n with lane := l.facingOut (s.outWork n) }) (hquiet s _) hq hh he
      obtain ⟨l', hbegin, hst', howed', x, hx, hparcel, hdone, hsnap⟩ := startParcel_begins (s := s) (n := n)
        (js := [.arbiter]) (e := e) (col := { s.column n with
          queue := held ++ rest
          lane := { l.facingOut (s.outWork n) with
            yieldOwed := false, workSeen := (held ++ rest).any s.serviceable } }) hb
      have hexec := exec_turnOutComplete (m := 0) hs hst (.of_eq (hbusy.trans hbegin)) (by norm_num) rfl rfl
      refine ⟨_, x, hexec, ?_, ?_, ?_, hparcel, hdone, fun k hk => ?_, ?_, rfl, rfl⟩
      · rw [State.queue, State.column_setColumn]
      · rw [State.lane, State.column_setColumn]
        exact hst'
      · rw [State.lane, State.column_setColumn]
        exact hx
      · rw [hsnap, State.inProfile, hk]
      · rw [State.lane, State.column_setColumn]
        exact howed'
    · let u := s.counted e (some { k with dir := .outbound limit out }) (s.notices.addCredit e.chan) s.store
      have hlive : k.isDraining = false := Link.isDraining_of_open hopen
      have hcompleted : s.completed e = u := completed_host ho hk hdir hlive
      have hmap : s.SameMap u := counted_sameMap hk (by simp only [Link.shape, hdir])
      have he : s.serviceable e = true := by simp only [State.serviceable, hk, hopen, Bool.true_or]
      have hnone : (held ++ rest).any u.serviceable = false := by
        rw [hmap.serviceable, List.any_eq_false]
        exact fun y hy => by rw [hh y hy]; exact Bool.false_ne_true
      let l1 : Lane := { l.facingOut (s.outWork n) with
        yieldOwed := false, workSeen := (held ++ rest).any s.serviceable, state := .sending }
      have htakes := decideOut_takes (s := s) (n := n) (js := [.arbiter])
        (col := { s.column n with lane := l.facingOut (s.outWork n) }) (hquiet s _) hq
        (fun y hy => hh y (List.mem_append_left _ hy)) he
      have hcompletes : completeParcel n e (s.at n
          { s.column n with queue := held ++ rest, lane := l1 } [.arbiter]) =
          u.at n { s.column n with queue := held ++ rest, lane := { l1 with sending := none } }
            [.serve, .drainTest e.chan, .parcelEnd n, .arbiter] := by
        rw [completeParcel_at _ _ _ _ (.inr ho), hcompleted, tellJobs, ho]
        rfl
      let l2 : Lane := { l1 with sending := none, state := .idleOut, workSeen := false }
      have hparcel : parcelEnd n (u.at n
          { s.column n with queue := held ++ rest, lane := { l1 with sending := none } } [.arbiter]) =
          u.at n { s.column n with queue := held ++ rest, lane := l2 } [.arbiter] := by
        obtain ⟨col', heq, hd⟩ := parcelEnd_decided (s := u) (n := n) (js := [.arbiter])
          (col := { s.column n with queue := held ++ rest, lane := { l1 with sending := none } }) rfl rfl
          (fun y hy hs' => absurd hs' (List.any_eq_false.mp hnone y hy))
        rw [heq, hd.outward (heeds_quiet hatn) hnone hhome, hnone]
      have hlink : u.link e.chan = some { k with dir := .outbound limit out } := counted_link
      have hexec := exec_turnOutComplete (u := u) (m := 3) hs hst
        (by
          rw [htakes.trans ((startParcel_empty hb).trans hcompletes)]
          exact .nextAt (serve_alone (by exact hs.alone)) (.nextAt (drainTest_live hlink hlive)
            (.nextAt hparcel (.refl 0 _)))) (by norm_num) rfl rfl
      have hlane : (u.setColumn n { s.column n with queue := held ++ rest, lane := l2 }).lane n = l2 := by
        rw [State.lane, State.column_setColumn]
      refine ⟨_, hexec, counted_delivered (fun c hc => ?_) rfl, ?_, ?_, ?_, ?_, ?_, hlink, rfl, ?_⟩
      · rw [Notices.addCredit_credit, if_neg hc, Nat.add_zero]
      · rw [State.queue, State.column_setColumn]
      · rw [hlane]
      · rw [hlane]
      · rw [hlane]; rfl
      · rw [hlane]; rfl
      · exact (Notices.addCredit_credit _ _ _).trans (by rw [if_pos rfl]; rfl)

/-! ### Emission onto a busy lane (R161 to R163) -/

theorem State.setContext_setContext (s : State) (i : Context) (x y : Option Playback) :
    (s.setContext i x).setContext i y = s.setContext i y := by
  simp only [State.setContext, Vector.set_set]

theorem testContext_emits {s : State} {i : Context} {x : Playback} {g : Segment} {body : List Byte}
    {q : Pool} (hx : s.context i = some x) (hph : x.phase = .active) (hcount : x.count < 2)
    (htimer : x.timer = .elapsed) (hopen : s.chanOpen x.chan = true)
    (hg : s.segment x.handle = some g) (hb : g.entries[x.next - 1]? = some body)
    (hq : s.pool.claimOrdinary 1 (cellsFor body.length) = some q) :
    testContext i s = emit i { s with pool := q } := by
  have hnext : s.nextEntry x = some body := by simp only [State.nextEntry, hg, hb]
  have hcond : x.phase = .active ∧ x.count < 2 ∧ x.timer = .elapsed ∧ s.chanOpen x.chan = true :=
    ⟨hph, hcount, htimer, hopen⟩
  simp only [testContext, hx, if_pos hcond, hnext, hq]

/-- The entry that a context emits. -/
def Playback.entry (x : Playback) (i : Context) (body : List Byte) : Outbound :=
  { chan := x.chan, origin := .playback (some i), body := body }

theorem emit_at {s : State} {i : Context} {x : Playback} {g : Segment} {body : List Byte} {n : Spur}
    {col : Column} {js : List Job} (hx : s.context i = some x) (hg : s.segment x.handle = some g)
    (hb : g.entries[x.next - 1]? = some body) (hn : x.spur = n) (hs : x.spacing ≠ 0) :
    emit i (s.at n col js) = (s.setContext i (some (x.emitted g.entries.length))).at n
      { col with queue := col.queue ++ [x.entry i body] } (.work n :: js) := by
  subst hn
  have heq := emit_eq (s := s.at x.spur col js) hx hg hb
  rw [if_neg hs, State.at_queue, State.at_setQueue, State.at_setContext, State.at_push] at heq
  exact heq

/-- A context that is ready to emit, onto a lane that is busy: the entry is queued, and the outbound-work
condition moves at most the yield timer and what the lane has seen. -/
theorem Leads.emits {s : State} {i : Context} {x : Playback} {g : Segment} {body : List Byte} {q : Pool}
    {n : Spur} {col : Column} (hx : s.context i = some x) (hph : x.phase = .active)
    (hcount : x.count < 2) (htimer : x.timer = .elapsed) (hopen : s.chanOpen x.chan = true)
    (hg : s.segment x.handle = some g) (hb : g.entries[x.next - 1]? = some body)
    (hq : s.pool.claimOrdinary 1 (cellsFor body.length) = some q) (hn : x.spur = n)
    (hs : x.spacing ≠ 0) (ho : col.lane.state ≠ .idleOut) (hi : col.lane.state ≠ .idleIn) :
    ∃ y w, ∀ js,
      Leads 3 (s.at n col (.testContext i :: js))
        (State.at { s with
          pool := q, store := s.store.withContext i (some (x.emitted g.entries.length)) } n
          { col with
            queue := col.queue ++ [x.entry i body]
            lane := { col.lane with yieldTimer := y, workSeen := w } } js) := by
  obtain ⟨y, w, hwork⟩ := Leads.workBusy
    { s with pool := q, store := s.store.withContext i (some (x.emitted g.entries.length)) } n
    { col with queue := col.queue ++ [x.entry i body] } ho hi
  refine ⟨y, w, fun js => .nextAt (j := .testContext i) ?_ (hwork js)⟩
  exact (testContext_emits (s := s.at n col js) hx hph hcount htimer hopen hg hb hq).trans
    (emit_at (s := { s with pool := q }) hx hg hb hn hs)

theorem Playback.emitted_next {x : Playback} {entries : Nat} (h : x.next + 1 ≤ entries)
    (hs : x.spacing ≠ 0) : x.emitted entries = { x with
      phase := .active, next := x.next + 1, count := x.count + 1, timer := .running } := by
  simp only [Playback.emitted, Playback.advance, if_pos h, if_neg hs]

/-- Settles O58. -/
theorem spacingTimerElapses : Obligations.SpacingTimerElapses := by
  unfold Obligations.SpacingTimerElapses
  intro s i p hs hp ht
  let u := s.setContext i (some { p with timer := .elapsed })
  have hu : u.context i = some { p with timer := .elapsed } := State.context_setContext _ _ _
  have helapsed : ∀ js, spacingElapsed i (s.at p.spur (s.column p.spur) js) =
      u.at p.spur (s.column p.spur) (.testContext i :: js) := by
    intro js
    simp only [spacingElapsed, State.at_context, hp, ht, State.at_setContext, State.at_push]
    rfl
  refine ⟨fun hcount => ?_, fun g body q hph hcount hspacing hopen hg hnext hb hmore hq hst => ?_⟩
  · have htests : testContext i (u.at p.spur (s.column p.spur) [.arbiter]) =
        u.at p.spur (s.column p.spur) [.arbiter] := by
      have hno : ¬ p.count < 2 := by omega
      simp [testContext, hu, hno]
    have hexec := State.act_at (f := spacingElapsed i) (k := 1) (u := u) (n := p.spur)
      (col := s.column p.spur) hs (by rw [helapsed]; exact .nextAt htests (.refl 0 _)) (by norm_num) rfl rfl
    exact hexec.trans (congrArg Host.Outcome.next (State.setColumn_column u p.spur))
  · obtain ⟨y, w, hemits⟩ := Leads.emits (s := u) (n := p.spur)
      (col := s.column p.spur) hu hph hcount rfl hopen hg hb hq
      rfl hspacing (by rw [show (s.column p.spur).lane.state = .sending from hst]; decide)
      (by rw [show (s.column p.spur).lane.state = .sending from hst]; decide)
    have hleads := hemits [.arbiter]
    rw [← helapsed] at hleads
    have hexec := State.act_at (f := spacingElapsed i) hs hleads (by norm_num) rfl rfl
    refine ⟨_, hexec, ?_, ?_, rfl, rfl, rfl⟩
    · refine ((Store.withContext_context _ _ _ i).trans (if_pos rfl)).trans ?_
      rw [Playback.emitted_next (x := { p with timer := .elapsed }) hmore hspacing, ht, ← hph]
    · rw [State.queue, State.column_setColumn]
      rfl

end Sys2Proof.Machine
end

section
/-! Acceptance of a good data parcel (03, section 3.1), with the offer to the channel's tee (08, section
8.4). -/

namespace Sys2Proof.Machine

-- the proofs are elaborated one after another: all at once they ask for too many threads
set_option Elab.async false

/-- The offer to the tee looks at no more of the link than its tee. -/
theorem Captured.setDir {s : State} {l : Link} {d d' : Direction} {t : Option Handle} {body : List Byte}
    {st : Store} {p : Pool} {nb : Notices}
    (h : Captured s { l with dir := d } body { l with dir := d, tee := t } st p nb) :
    Captured s { l with dir := d' } body { l with dir := d', tee := t } st p nb := by
  have htee : ∀ x : Option Handle, ({ l with dir := d, tee := t } : Link) = { l with dir := d, tee := x } →
      ({ l with dir := d', tee := t } : Link) = { l with dir := d', tee := x } := fun x hx => by
    rw [show t = x from congrArg Link.tee hx]
  obtain ⟨hnone, hsome⟩ := h
  refine ⟨fun ht => ?_, fun i g ht hg => ?_⟩
  · obtain ⟨hlink, hrest⟩ := hnone ht
    exact ⟨htee l.tee hlink, hrest⟩
  · obtain ⟨hfits, hfull⟩ := hsome i g ht hg
    refine ⟨fun hf => ?_, fun hf => ?_⟩
    · obtain ⟨hlink, hrest⟩ := hfits hf
      exact ⟨htee l.tee hlink, hrest⟩
    · obtain ⟨hlink, hrest⟩ := hfull hf
      exact ⟨htee none hlink, hrest⟩

/-- A parcel within its credit joins its spur's queue, and outstanding rises by one (R45, R46). -/
theorem acceptance_accepts {s : State} {c : Chan} {l : Link} {limit k : Nat} {body : List Byte} {n : Spur}
    {col : Column} {js : List Job} (hj : s.judge c = .inr (l, limit, k)) (hn : l.spur = n) :
    acceptance c body (s.at n col js) =
      (s.setLink c (some { l with dir := .outbound limit (k + 1) })).at n
        { col with queue := col.queue ++ [{ chan := c, origin := .host, body := body }] }
        (.capture c body :: .work n :: js) := by
  subst hn
  have hj' : (s.at l.spur col js).judge c = .inr (l, limit, k) := hj
  simp only [acceptance, hj', State.at_setLink, State.at_queue, State.at_setQueue, State.at_push]
  rfl

/-- Settles O16. -/
theorem goodDataParcelAccepted : Obligations.GoodDataParcelAccepted := by
  unfold Obligations.GoodDataParcelAccepted
  intro s d p c bs l limit k hs hq hst hsum hc hbs hl hlive hdir hcredit hrec ho hi
  let n := l.spur
  let v : State := { s.latched false d with
    rx := { s.rx with breakTimer := .stopped, sum := 0, gapTimer := none, state := .hunt } }
  let l1 : Link := { l with dir := .outbound limit (k + 1) }
  let u : State := v.setLink c (some l1)
  let col : Column := { s.column n with
    queue := s.queue n ++ [{ chan := c, origin := .host, body := bs }] }
  have hj : v.judge c = .inr (l, limit, k) :=
    (State.judge_outbound (s := v) hl hlive hdir).trans (if_neg (by exact Nat.not_le.mpr hcredit))
  have hu : u.link c = some l1 := State.link_setLink _ _ _
  obtain ⟨t, st, pool, nb, hcap, hwait, hcapture⟩ := capture_captures (body := bs) hu hrec
  let w : State := State.setLink { u with store := st, pool := pool, notices := nb } c
    (some { l1 with tee := t })
  obtain ⟨y, seen, hwork⟩ := Leads.workBusy w n col ho hi
  let col' : Column := { col with lane := { col.lane with yieldTimer := y, workSeen := seen } }
  have hleads : Leads 3 (acceptance c bs (v.doing [.arbiter])) ((w.setColumn n col').doing [.arbiter]) := by
    rw [← v.at_self n, acceptance_accepts hj rfl]
    refine .nextAt (j := .capture c bs) (u := w.at n col [.work n, .arbiter]) ?_ (hwork [.arbiter])
    exact (capture_at c bs u n col [.work n, .arbiter]).trans
      (congrArg (fun x : State => x.at n col [.work n, .arbiter]) hcapture)
  have hexec := exec_trunkInBeat_accepts hs hq hst hsum hc hbs hleads (by norm_num) hs.busy hs.agenda
  have hcolumn : (w.setColumn n col').column n = col' := State.column_setColumn _ _ _
  refine ⟨_, { l with tee := t }, hexec, rfl, ?_, State.link_setLink _ _ _, fun c' hc' => ?_, ?_,
    fun m hm => State.column_setColumn_ne _ hm _, ?_, ?_, ?_, ?_, rfl, rfl, rfl, rfl, rfl⟩
  · exact Captured.setDir (s := s) (d := .outbound limit (k + 1)) (d' := l.dir) hcap
  · exact (State.link_setLink_ne _ hc' _).trans (State.link_setLink_ne _ hc' _)
  · rw [State.queue, hcolumn]
  · rw [State.gather, hcolumn]
    rfl
  all_goals
    rw [State.lane, hcolumn]
    rfl

end Sys2Proof.Machine
end

section
/-! The requests on playback (08, section 8.5): PLAY SEGMENT and STOP PLAY. -/

namespace Sys2Proof.Machine

-- the proofs are elaborated one after another: all at once they ask for too many threads
set_option Elab.async false

/-! ### A response in its request's own storage (R140, R174) -/

/-- The state t with a request still held, and the records of its execution held back (R173, R176). -/
def State.held (t : State) (code seq : Byte) (ps : List Byte) (rs : List Record) : State :=
  { t with engine := { t.engine with
    requests := [{ code := code, seq := seq, params := ps, discard := false }]
    records := some rs } }

/-- The state t with the response of its request queued in the request's storage, and with the records of
the execution handed on (R140, R174, R176). -/
def State.answeredInPlace (t : State) (code seq : Byte) (st : Status) (results : List Byte)
    (rs : List Record) : State :=
  let a : Answer := { code := code, seq := seq, status := st, results := results }
  { t with
    notices := rs.foldl Notices.arrive t.notices
    arbiter := { t.arbiter with
      responses := t.arbiter.responses ++
        [{ answer := a, restart := decide (code = 4 ∧ st = .ok) }] }
    engine := { t.engine with remembered := some a } }

theorem fitAnswer_inPlace {r : Request} {a : Answer}
    (h : cellsFor (a.results.length + 3) = cellsFor (r.params.length + 2)) (p : Pool) :
    fitAnswer r a p = (a, p) := by
  have hcells : a.cells = r.cells := h
  rw [fitAnswer, if_pos hcells.le, hcells, Nat.sub_self]
  rfl

/-- A request whose response fills as many cells as the request, whatever its rule has done with the rest of
the pool: nobody who waits for the pool is granted by the response (R143). -/
theorem request_ends_inPlace {s u t : State} {code seq : Byte} {ps : List Byte} {st : Status}
    {results : List Byte} {rs : List Record} {n res : Nat} (hs : Settled s)
    (he : Ready s code seq ps.length res) (hf : paramsFit ps = true)
    (hx : executeRequest code ps (s.executing code seq ps) =
      { state := u, status := st, results := results })
    (hl : Leads n (u.doing (u.agenda ++ [.respond st results, .arbiter]))
      ((t.held code seq ps rs).doing [.respond st results, .arbiter]))
    (hcells : cellsFor (results.length + 3) = cellsFor (ps.length + 2))
    (hn : n ≤ 1000000) (htx : t.tx = s.tx) (ha : t.agenda = s.agenda) (hen : t.engine = s.engine)
    (hserve : ∀ v : State, v.pool = t.pool → serve v = v) :
    request code seq ps s = .next (t.answeredInPlace code seq st results rs) := by
  let v := t.answeredInPlace code seq st results rs
  have hr : t.engine.requests = [] := hen ▸ he.idle
  have hrec : t.engine.records = none := hen ▸ he.between
  have hrespond : doJob (.respond st results) ((t.held code seq ps rs).doing [.arbiter]) =
      v.doing [.serve, .engine, .arbiter] := by
    have hfit := fitAnswer_inPlace (r := { code := code, seq := seq, params := ps, discard := false })
      (a := { code := code, seq := seq, status := st, results := results }) hcells t.pool
    simp only [doJob, respond, State.held, State.doing, queueAnswer, hfit]
    simp [State.handRecords, State.push, State.answeredInPlace, v, hr, hrec]
  have hdone : v.doing [] = v := State.doing_same (ha.trans hs.agenda)
  have hlast : Leads 3 (v.doing [.serve, .engine, .arbiter]) v :=
    .next (hserve (v.doing [.engine, .arbiter]) rfl) (.next (engineTurn_idle (by exact hr))
      (.next (u := v) (hdone ▸ arbitrate_busy (by exact htx ▸ hs.busy)) (.refl 0 v)))
  rw [request_execution hs he hf hx]
  exact congrArg _ ((hl.trans (.next hrespond hlast)).goOn (by omega) (ha.trans hs.agenda))

/-! ### PLAY SEGMENT (R160) -/

/-- The context that a playback starts in (R160). -/
def Playback.starting (h : Handle) (c : Chan) (n : Spur) (repeats spacing : Byte) : Playback :=
  { phase := .active, handle := h, chan := c, spur := n, next := 1
    repeats := if repeats = 0 then none else some repeats.toNat
    spacing := spacing, count := 0, timer := .elapsed }

theorem State.freeContext_all {s : State} (h : ∀ i, s.context i = none) : s.freeContext = some 0 := by
  simp only [State.freeContext, h]
  rfl

/-- The state s with the pool, the store and the column of spur n as given. -/
def State.played (s : State) (p : Pool) (st : Store) (n : Spur) (col : Column) : State :=
  { s.setColumn n col with pool := p, store := st }

/-- The store once a playback of segment h by context i has begun (R160). -/
def Store.playing (st : Store) (h : Handle) (g : Segment) (i : Context) (x : Playback) : Store :=
  { st with
    segments := st.segments.set h.val (some { g with state := .playing })
    contexts := st.contexts.set i.val (some x) }

section played
variable (s : State) (p : Pool) (st : Store) (n : Spur) (col : Column)

theorem State.played_column : (s.played p st n col).column n = col := State.column_setColumn s n col

theorem State.played_held (code seq : Byte) (ps : List Byte) (js : List Job) :
    State.at { s.executing code seq ps with pool := p, store := st } n col js =
      ((s.played p st n col).held code seq ps []).doing js := rfl

/-- The same with the records of the execution, the pool as it stands without the request's storage. -/
theorem State.played_recording (code seq : Byte) (ps : List Byte) (rs : List Record) (js : List Job) :
    State.at { s.executing code seq ps with
      pool := p.holding (ps.length + 2), store := st
      engine := { (s.executing code seq ps).engine with records := some rs } } n col js =
        (((s.played p st n col).executing code seq ps).recording rs).doing js := rfl

end played

theorem playSegment_plays {s : State} {h : Handle} {c : Chan} {g : Segment} {l : Link} {repeats spacing : Byte}
    (hg : s.segment h = some g) (hready : g.state = .ready) (hentries : g.entries ≠ [])
    (hl : s.link c = some l) (hopen : l.isOpen = true) (hout : l.isIn = false)
    (hfree : ∀ i, s.context i = none) (hstray : s.strayPlayback l.spur = false) :
    playSegment [byteOf (handleNumber h), byteOf (chanNumber c), repeats, spacing] s =
      (State.push { s with store := s.store.playing h g 0 (.starting h c l.spur repeats spacing) }
        [.testContext 0]).answer [] := by
  have hon : s.contextOn l.spur = none := by simp [State.contextOn, hfree]
  have hof : s.contextOf c = none := by simp [State.contextOf, hfree]
  simp only [playSegment, handleOf_byteOf_handleNumber, chanOf_byteOf_chanNumber, hg, hready, hl,
    State.freeContext_all hfree, startPlayback, State.setSegState_of hg]
  rw [if_neg (by simp), if_neg (by simp [hentries, hopen, hout]), if_neg (by simp [hon, hof, hstray])]
  rfl

/-- A playback that starts and emits its first entry at once, and is then answered (R160, R162, R163). -/
theorem request_plays {s : State} {seq : Byte} {ps : List Byte} {n : Spur} {g : Segment} {h : Handle}
    {x : Playback} {e1 : List Byte} {q : Pool} {i : Context} (hs : Settled s) (he : Ready s 21 seq ps.length 0)
    (hf : paramsFit ps = true)
    (hx : executeRequest 21 ps (s.executing 21 seq ps) =
      (State.push { s.executing 21 seq ps with store := s.store.playing h g i x } [.testContext i]).answer [])
    (hcells : cellsFor 3 = cellsFor (ps.length + 2))
    (hhandle : x.handle = h) (hph : x.phase = .active) (hcount : x.count < 2) (htimer : x.timer = .elapsed)
    (hopen : s.chanOpen x.chan = true) (hb : g.entries[x.next - 1]? = some e1)
    (hq : (s.pool.holding (ps.length + 2)).claimOrdinary 1 (cellsFor e1.length) = some q) (hn : x.spur = n)
    (hspacing : x.spacing ≠ 0) (hst : (s.lane n).state = .sending) :
    ∃ y w, request 21 seq ps s = .next (State.answeredInPlace
      (s.played q ((s.store.playing h g i x).withContext i (some (x.emitted g.entries.length))) n
        { s.column n with
          queue := s.queue n ++ [x.entry i e1]
          lane := { s.lane n with yieldTimer := y, workSeen := w } }) 21 seq .ok [] []) := by
  let e : State := { s.executing 21 seq ps with store := s.store.playing h g i x }
  have hcontext : e.context i = some x := Vector.getElem_set_self _
  have hsegment : e.segment x.handle = some { g with state := .playing } := by
    rw [hhandle]
    exact Vector.getElem_set_self _
  obtain ⟨y, w, hemits⟩ := Leads.emits (s := e) (n := n) (col := s.column n) hcontext hph hcount htimer
    hopen hsegment hb hq hn hspacing (by rw [show (s.column n).lane.state = .sending from hst]; decide)
    (by rw [show (s.column n).lane.state = .sending from hst]; decide)
  have hleads := hemits [.respond .ok [], .arbiter]
  rw [show s.column n = e.column n from rfl, e.at_self n] at hleads
  refine ⟨y, w, request_ends_inPlace (u := e.push [.testContext i]) (n := 3 + 0) hs he hf hx
    (hleads.trans (.of_eq (State.played_held s _ _ _ _ _ _ _ _))) hcells (by norm_num) rfl rfl rfl
    fun v hv => serve_alone ?_⟩
  obtain ⟨-, -, -, hwaiting⟩ := Pool.claimOrdinary_frame hq
  rw [hv]
  exact hwaiting.trans hs.alone

/-- Settles O47. -/
theorem playSegmentStarts : Obligations.PlaySegmentStarts := by
  unfold Obligations.PlaySegmentStarts
  intro s seq h c repeats spacing g l limit k e1 e2 more hs he hg hready hentries hl hph hdir hst hfree
    hstray hspacing hclaim
  have hopen : l.isOpen = true := by simp only [Link.isOpen, hph]
  have hchan : s.chanOpen c = true := by simp only [State.chanOpen, hl, hopen]
  obtain ⟨q, hq⟩ := Option.ne_none_iff_exists'.mp hclaim
  let ps := [byteOf (handleNumber h), byteOf (chanNumber c), repeats, spacing]
  let x := Playback.starting h c l.spur repeats spacing
  have hcells : cellsFor 3 = cellsFor 6 := by decide
  have hx := playSegment_plays (s := s.executing 21 seq ps) (repeats := repeats) (spacing := spacing)
    hg hready (by rw [hentries]; exact List.cons_ne_nil _ _) hl hopen (Link.isIn_outbound hdir) hfree hstray
  obtain ⟨y, w, hexec⟩ := request_plays (ps := ps) (n := l.spur) (g := g) (h := h) (x := x) (e1 := e1)
    (q := q) (i := 0) hs he rfl hx hcells rfl rfl Nat.zero_lt_two rfl hchan
    (by rw [hentries]; rfl) hq rfl hspacing hst
  refine ⟨_, 0, hexec, rfl, ?_, ?_, fun j hj => ?_, ?_, rfl, rfl⟩
  · exact Vector.getElem_set_self _
  · refine ((Store.withContext_context _ _ _ 0).trans (if_pos rfl)).trans ?_
    rw [Playback.emitted_next (by rw [hentries]; simp [x, Playback.starting]) hspacing]
    rfl
  · refine (Store.withContext_context _ _ _ j).trans ((if_neg hj).trans ?_)
    exact (Store.withContext_context _ _ (some x) j).trans ((if_neg hj).trans (hfree j))
  · exact congrArg Column.queue (State.column_setColumn s _ _)

/-! ### STOP PLAY (R166) -/

theorem Pool.holding_put {p : Pool} {d k m : Nat} (hd : 1 ≤ p.freeDescriptors)
    (hk : cellsFor m ≤ p.freeCells) : (p.holding m).put false d k = (p.put false d k).holding m := by
  simp only [Pool.holding, Pool.put, Bool.false_eq_true, if_false, Pool.mk.injEq, and_true]
  omega

/-- The lane's parcel, told to context i no more (R61, R166). -/
def Lane.orphaned (l : Lane) (i : Context) : Lane :=
  { l with sending := l.sending.map fun x => { x with parcel := x.parcel.orphan i } }

/-- A queue without parcels of context i has none to tell it no more. -/
theorem orphan_rest (q : List Outbound) (i : Context) :
    (q.filter fun e => e.origin ≠ .playback (some i)).map (Outbound.orphan i) =
      q.filter fun e => e.origin ≠ .playback (some i) := by
  refine (List.map_congr_left fun e he => ?_).trans (List.map_id _)
  have hother : e.origin ≠ .playback (some i) := of_decide_eq_true (List.mem_filter.mp he).2
  rw [Outbound.orphan, if_neg hother, id]

theorem Outbound.orphan_eq (i : Context) (e : Outbound) : e.orphan i = { e with
    origin := if e.origin = .playback (some i) then .playback none else e.origin } := by
  unfold Outbound.orphan
  split <;> rfl

section stopping
variable {s : State} {n : Spur} {col : Column} {js : List Job} {i : Context} {p : Playback}

theorem orphan_at : (s.at n col js).orphan n i = s.at n { col with
    queue := col.queue.map (Outbound.orphan i), lane := col.lane.orphaned i } js := by
  cases hx : col.lane.sending with
  | none =>
    have hlane : col.lane.orphaned i = col.lane := by
      rw [Lane.orphaned, hx, Option.map_none, ← hx]
    simp only [State.orphan, State.at_lane, hx, State.at_queue, State.at_setQueue, hlane]
  | some x =>
    have hlane : col.lane.orphaned i =
        { col.lane with sending := some { x with parcel := x.parcel.orphan i } } := by
      rw [Lane.orphaned, hx, Option.map_some]
    simp only [State.orphan, State.at_lane, hx, State.at_queue, State.at_setQueue, State.at_setLane, hlane]

/-- The parcels of a context are removed, held or not (R65, R166). -/
theorem removePlayback_at (hp : s.context i = some p) (hn : p.spur = n) :
    let gone := col.queue.filter fun e => e.origin = .playback (some i)
    removePlayback i (s.at n col js) = State.at { s with
      pool := s.pool.put false gone.length ((gone.map fun e => cellsFor e.body.length).sum) } n
      { col with queue := col.queue.filter fun e => e.origin ≠ .playback (some i) }
      (.serve :: .work n :: js) := by
  intro gone
  subst hn
  simp only [removePlayback, State.at_context, hp, State.at_queue, State.at_setQueue, State.at_push]
  rw [State.at_giveBack]
  rfl

/-- The context becomes FREE, within an execution that holds its records back (R166, R176). -/
theorem freeContext_held {rs : List Record} (hp : s.context i = some p) (hn : p.spur = n)
    (hrec : s.engine.records = some rs) (r : PlayReason) : freeContext i r (s.at n col js) =
      State.at { s with
        store := s.store.ended i p.handle
        engine := { s.engine with records := some (rs ++ [.playend p.chan p.handle r]) } } n
        { col with queue := col.queue.map (Outbound.orphan i), lane := col.lane.orphaned i } js := by
  subst hn
  have hrecord : State.record { s with store := s.store.ended i p.handle } (.playend p.chan p.handle r) =
      { s with
        store := s.store.ended i p.handle
        engine := { s.engine with records := some (rs ++ [.playend p.chan p.handle r]) } } :=
    State.record_later (s := { s with store := s.store.ended i p.handle }) hrec _
  simp only [freeContext, State.at_context, hp, orphan_at, setSegState_at, State.at_setContext,
    setSegState_setContext, State.at_record, hrecord]

end stopping

theorem stopPlay_stops {s : State} {c : Chan} {i : Context} {p : Playback} (hi : s.contextOf c = some i)
    (hp : s.context i = some p) (hw : s.pool.waiting = []) :
    stopPlay [byteOf (chanNumber c)] s =
      (s.push [.removePlayback i, .freeContext i .stopped]).answer
        [byteOf p.next, byteOf (p.repeats.getD 0)] := by
  have hleave : stopAs i s = s.push [.removePlayback i, .freeContext i .stopped] :=
    State.leaveWaiting_alone (by exact hw) _
  simp only [stopPlay, chanOf_byteOf_chanNumber, hi, hp, hleave]

/-- Settles O48. -/
theorem stopPlayEnds : Obligations.StopPlayEnds := by
  unfold Obligations.StopPlayEnds
  intro s seq c i p g hs he hi hp hchan hg hst hroom
  let n := p.spur
  let ps := [byteOf (chanNumber c)]
  let results := [byteOf p.next, byteOf (p.repeats.getD 0)]
  let gone := (s.queue n).filter fun e => e.origin = .playback (some i)
  let cells := (gone.map fun e => cellsFor e.body.length).sum
  let rest := (s.queue n).filter fun e => e.origin ≠ .playback (some i)
  let e := s.executing 22 seq ps
  let p1 := s.pool.put false gone.length cells
  let e1 : State := { e with pool := p1.holding 3 }
  let col : Column := { s.column n with queue := rest }
  obtain ⟨y, w, hwork⟩ := Leads.workBusy e1 n col (by rw [show col.lane.state = .sending from hst]; decide)
    (by rw [show col.lane.state = .sending from hst]; decide)
  let col' : Column := { col with lane := { col.lane with yieldTimer := y, workSeen := w }.orphaned i }
  let t := s.played p1 (s.store.ended i p.handle) n col'
  have hremove : ∀ js, removePlayback i (e.at n (s.column n) js) =
      e1.at n col (.serve :: .work n :: js) := by
    intro js
    have hput : (s.pool.holding 3).put false gone.length cells = p1.holding 3 :=
      Pool.holding_put he.descriptor he.requestCells
    refine (removePlayback_at (s := e) (n := n) (col := s.column n) (js := js) hp rfl).trans ?_
    exact congrArg (fun x : Pool => State.at { e with pool := x } n col (.serve :: .work n :: js)) hput
  have hfree : ∀ js, freeContext i .stopped (e1.at n
      { col with lane := { col.lane with yieldTimer := y, workSeen := w } } js) =
        ((t.executing 22 seq ps).recording [.playend c p.handle .stopped]).doing js := by
    intro js
    refine (freeContext_held (s := e1) (n := n) (rs := []) hp rfl rfl .stopped).trans ?_
    rw [orphan_rest, hchan]
    rfl
  have hleads : Leads 5 (e.at n (s.column n)
      [.removePlayback i, .freeContext i .stopped, .respond .ok results, .arbiter])
        (((t.executing 22 seq ps).recording [.playend c p.handle .stopped]).doing
          [.respond .ok results, .arbiter]) :=
    .nextAt (hremove _) (.nextAt (serve_alone (by exact hs.alone)) ((hwork _).trans
      (.nextAt (j := .freeContext i .stopped) (hfree [.respond .ok results, .arbiter]) (.refl 0 _))))
  have hexec : exec (.stopPlay seq ps) s = .next (State.answered
      { t with notices := s.notices.arrive (.playend c p.handle .stopped) } 22 seq .ok results) := by
    refine request_ends (u := e.push [.removePlayback i, .freeContext i .stopped]) (t := t) (ps := ps)
      (rs := [.playend c p.handle .stopped]) (n := 5) hs he rfl
      (stopPlay_stops (s := e) hi hp hs.alone) ?_ (by norm_num) rfl rfl rfl hs.alone
      (he.descriptor.trans (Nat.le_add_right _ _)) (he.requestCells.trans (Nat.le_add_right _ _))
      (he.responseCells.trans (Nat.le_add_right _ _))
    rw [show s.column n = e.column n from rfl, e.at_self n] at hleads
    exact hleads
  refine ⟨_, hexec, rfl, ?_, fun j hj => ?_, ?_, ?_, ?_, rfl, rfl, ?_⟩
  · exact (Store.ended_context _ _ _ i).trans (if_pos rfl)
  · exact (Store.ended_context _ _ _ j).trans (if_neg hj)
  · exact Store.ended_segment hg i
  · exact congrArg Column.queue (State.column_setColumn s _ _)
  · exact Notices.arrive_room hroom _
  · refine (congrArg (fun col : Column => col.lane.sending) (State.column_setColumn s _ _)).trans ?_
    have hparcel : (fun x : Sending => { x with parcel := x.parcel.orphan i }) = fun x => { x with
        parcel := { x.parcel with
          origin := if x.parcel.origin = .playback (some i) then .playback none
            else x.parcel.origin } } := by
      funext x
      rw [Outbound.orphan_eq]
    exact congrArg (fun f => (s.lane n).sending.map f) hparcel

end Sys2Proof.Machine
end

section
/-! HALT CHANNEL and RESUME CHANNEL (02, section 2.5), with what becomes of the channel's playback (08,
section 8.5) and of its gather (05, sections 5.3 and 5.4). -/

namespace Sys2Proof.Machine

-- the proofs are elaborated one after another: all at once they ask for too many threads
set_option Elab.async false

/-! ### Records held back (R176) -/

section handed
variable (s : State)

theorem handRecords_record (r : Record) : (s.record r).handRecords = s.handRecords.record r := by
  have hnone : s.handRecords.engine.records = none := rfl
  rw [State.record_now hnone]
  cases hrec : s.engine.records with
  | none =>
    rw [State.record_now hrec]
    simp only [State.handRecords, hrec, Option.getD_none, List.foldl_nil]
  | some l =>
    rw [State.record_later hrec]
    simp only [State.handRecords, hrec, Option.getD_some, List.foldl_append, List.foldl_cons, List.foldl_nil]

theorem handRecords_setTee (c : Chan) (t : Option Handle) :
    (s.setTee c t).handRecords = s.handRecords.setTee c t := by
  have hlink : s.handRecords.link c = s.link c := rfl
  cases hl : s.link c with
  | none => simp only [State.setTee, hlink, hl]
  | some l =>
    simp only [State.setTee, hlink, hl]
    rfl

theorem handRecords_setSegState (h : Handle) (st : SegState) :
    (s.setSegState h st).handRecords = s.handRecords.setSegState h st := by
  have hsegment : s.handRecords.segment h = s.segment h := rfl
  cases hg : s.segment h with
  | none => simp only [State.setSegState, hsegment, hg]
  | some g =>
    simp only [State.setSegState, hsegment, hg]
    rfl

theorem handRecords_append (h : Handle) (body : List Byte) :
    (append h body s).map State.handRecords = append h body s.handRecords := by
  have hsegment : s.handRecords.segment h = s.segment h := rfl
  cases hg : s.segment h with
  | none => simp only [append, hsegment, hg, Option.map_none]
  | some g =>
    by_cases hf : s.fits g body
    · rw [append_fits hg hf, append_fits (s := s.handRecords) hg hf]
      rfl
    · rw [append_fails hg hf, append_fails (s := s.handRecords) hg hf]
      rfl

/-- An execution's captures are those of the part out of execution, but for when their records reach the
Notice Builder. -/
theorem handRecords_capture (c : Chan) (body : List Byte) :
    (capture c body s).handRecords = capture c body s.handRecords := by
  have hlink : s.handRecords.link c = s.link c := rfl
  have hfull : ∀ h, (captureFull c h s).handRecords = captureFull c h s.handRecords := fun h => by
    simp only [captureFull, handRecords_record, handRecords_setSegState, handRecords_setTee]
    rfl
  cases hl : s.link c with
  | none => simp only [capture, hlink, hl]
  | some l =>
    cases ht : l.tee with
    | none => simp only [capture, hlink, hl, ht]
    | some h =>
      have happ := handRecords_append s h body
      cases ha : append h body s with
      | none =>
        rw [ha, Option.map_none] at happ
        simp only [capture, hlink, hl, ht, ha, ← happ, hfull]
      | some u =>
        rw [ha, Option.map_some] at happ
        simp only [capture, hlink, hl, ht, ha, ← happ]

theorem handRecords_forwarded (c : Chan) (cls : DataClass) (bs : List Byte) :
    (s.forwarded c cls bs).handRecords = s.handRecords.forwarded c cls bs := by
  have hcap := handRecords_capture s c bs
  have harbiter : (capture c bs s.handRecords).arbiter = (capture c bs s).arbiter := by rw [← hcap]; rfl
  have hdrop : ((capture c bs s).record (.overrun c bs.length)).handRecords =
      (capture c bs s.handRecords).record (.overrun c bs.length) := by rw [handRecords_record, hcap]
  simp only [State.forwarded, harbiter]
  split
  · rw [← hcap]
    rfl
  · rw [← hdrop]
    rfl

theorem handRecords_overran (c : Chan) (m : Nat) : (s.overran c m).handRecords = s.handRecords.overran c m :=
  congrArg (fun v : State => v.countDrop c) (handRecords_record s (.overrun c m))

end handed

/-- The engine in an execution whose records have been handed on. -/
theorem Ready.handed {s : State} {code seq : Byte} {req res : Nat} (h : Ready s code seq req res)
    (ps : List Byte) : (s.executing code seq ps).handRecords.engine = { s.engine with
      requests := [{ code := code, seq := seq, params := ps, discard := false }] } := by
  have hrec : s.engine.records = none := h.between
  simp only [State.handRecords, State.executing, hrec]

/-- A request whose response fills as many cells as the request: w is the part once the records of the
execution have been handed on (R140, R174, R176). -/
theorem request_ends_handed {s u v w : State} {code seq : Byte} {ps : List Byte} {st : Status}
    {results : List Byte} {n res : Nat} (hs : Settled s) (he : Ready s code seq ps.length res)
    (hf : paramsFit ps = true)
    (hx : executeRequest code ps (s.executing code seq ps) =
      { state := u, status := st, results := results })
    (hl : Leads n (u.doing (u.agenda ++ [.respond st results, .arbiter]))
      (v.doing [.respond st results, .arbiter]))
    (hcells : cellsFor (results.length + 3) = cellsFor (ps.length + 2)) (hn : n ≤ 1000000)
    (hw : v.handRecords = w)
    (hen : w.engine = { s.engine with
      requests := [{ code := code, seq := seq, params := ps, discard := false }] })
    (htx : w.tx = s.tx) (ha : w.agenda = s.agenda) (hserve : ∀ x : State, x.pool = w.pool → serve x = x) :
    request code seq ps s = .next (State.answeredInPlace { w with engine := s.engine } code seq st results
      []) := by
  let r : Request := { code := code, seq := seq, params := ps, discard := false }
  let a : Answer := { code := code, seq := seq, status := st, results := results }
  let t := State.answeredInPlace { w with engine := s.engine } code seq st results []
  have hreq : v.engine.requests = [r] := by
    have h := congrArg (fun x : State => x.engine.requests) hw
    exact h.trans (congrArg Engine.requests hen)
  have hidle : s.engine.requests = [] := he.idle
  have hrespond : doJob (.respond st results) (v.doing [.arbiter]) = t.doing [.serve, .engine, .arbiter] := by
    have hfit := fitAnswer_inPlace (r := r) (a := a) hcells v.pool
    subst hw
    have hrec : s.engine.records = none := he.between
    show respond st results (v.doing [.arbiter]) = _
    have hengine : v.engine = { s.engine with requests := [r], records := v.engine.records } :=
      congrArg (fun x : Engine => { x with records := v.engine.records }) hen
    simp only [respond, State.doing, hreq, r, Bool.false_eq_true, if_false, queueAnswer]
    rw [hfit]
    simp only [State.handRecords, State.push, State.answeredInPlace, t, List.foldl_nil, a]
    rw [hengine]
    simp only [List.drop_succ_cons, List.drop_zero, hidle, hrec, if_true, List.cons_append, List.nil_append]
  have hdone : t.doing [] = t := State.doing_same (ha.trans hs.agenda)
  have hlast : Leads 3 (t.doing [.serve, .engine, .arbiter]) t :=
    .next (hserve (t.doing [.engine, .arbiter]) rfl) (.next (engineTurn_idle (by exact hidle))
      (.next (u := t) (hdone ▸ arbitrate_busy (by exact htx ▸ hs.busy)) (.refl 0 t)))
  rw [request_execution hs he hf hx]
  exact congrArg _ ((hl.trans (.next hrespond hlast)).goOn (by omega) (ha.trans hs.agenda))

/-! ### A request on a channel's link -/

section requests
variable {s : State} {c : Chan} {lk : Option Link} {nb : Notices} {p : Pool} {st : Store} {n : Spur}
  {col : Column} {js : List Job}

theorem relinked_at {u : State} (h : u = s.setLink c lk) :
    u.doing js = (s.relinked c lk s.notices s.pool s.store).at n (s.column n) js := by
  rw [h]
  exact ((s.setLink c lk).at_self n js).symm

theorem relinked_held (code seq : Byte) (ps : List Byte) :
    ((s.executing code seq ps).relinked c lk s.notices p st).at n col js =
      (((s.relinked c lk s.notices p st).setColumn n col).held code seq ps []).doing js := rfl

/-- A request that replaces a channel's link, and after it changes the pool, the store and one column. -/
theorem request_relinks {code seq : Byte} {ps : List Byte} {stat : Status} {results : List Byte}
    {lk' : Option Link} {ks : List Job} {m res : Nat} (hs : Settled s)
    (he : Ready s code seq ps.length res) (hf : paramsFit ps = true)
    (hx : executeRequest code ps (s.executing code seq ps) =
      { state := ((s.executing code seq ps).setLink c lk').push ks, status := stat, results := results })
    (hcells : cellsFor (results.length + 3) = cellsFor (ps.length + 2))
    (hl : Leads m (((s.executing code seq ps).relinked c lk' s.notices
        (s.pool.holding (ps.length + 2)) s.store).at n (s.column n) (ks ++ [.respond stat results, .arbiter]))
      (((s.executing code seq ps).relinked c lk s.notices p st).at n col [.respond stat results, .arbiter]))
    (hm : m ≤ 1000000) (hserve : ∀ v : State, v.pool = p → serve v = v) :
    request code seq ps s =
      .next (State.answeredInPlace ((s.relinked c lk s.notices p st).setColumn n col) code seq stat results
        []) := by
  refine request_ends_inPlace (n := m) hs he hf hx ?_ hcells hm rfl rfl rfl hserve
  rw [← relinked_held]
  have hstart : ((((s.executing code seq ps).setLink c lk').push ks).doing
      ((((s.executing code seq ps).setLink c lk').push ks).agenda ++ [.respond stat results, .arbiter])) =
      ((s.executing code seq ps).relinked c lk' s.notices (s.pool.holding (ps.length + 2)) s.store).at n
        (s.column n) (ks ++ [.respond stat results, .arbiter]) := by
    have hagenda : (((s.executing code seq ps).setLink c lk').push ks).agenda = ks := List.append_nil ks
    rw [hagenda]
    exact relinked_at (s := s.executing code seq ps) (u := (s.executing code seq ps).setLink c lk') rfl
  rw [hstart]
  exact hl

end requests

/-! ### An OUT channel is halted or resumed (R28, R29, R165) -/

section rules
variable {s : State} {c : Chan} {l : Link}

theorem haltChannel_halts (hl : s.link c = some l) (hopen : l.isOpen = true) :
    haltChannel [byteOf (chanNumber c)] s =
      ((s.setLink c (some { l with phase := .halted .host })).push (haltJobs c l)).answer [] := by
  simp only [haltChannel, chanOf_byteOf_chanNumber, hl, hopen, if_true, State.setPhase]

theorem haltChannel_state (h : ∀ l, s.link c = some l → l.isOpen = false) :
    haltChannel [byteOf (chanNumber c)] s = s.refuse .state := by
  cases hl : s.link c with
  | none => simp only [haltChannel, chanOf_byteOf_chanNumber, hl]
  | some l =>
    have hclosed : ¬ l.isOpen = true := by rw [h l hl]; decide
    simp only [haltChannel, chanOf_byteOf_chanNumber, hl, if_neg hclosed]

theorem resumeChannel_resumes {why : HaltCause} (hl : s.link c = some l) (hp : l.phase = .halted why) :
    resumeChannel [byteOf (chanNumber c)] s =
      ((s.setLink c (some { l with phase := .opened })).push
        [.resumeContext c, .work l.spur, .decide l.spur, .takeBeats l.spur]).answer [] := by
  simp only [resumeChannel, chanOf_byteOf_chanNumber, hl, hp, State.setPhase]

theorem resumeChannel_state (h : ¬ ∃ l why, s.link c = some l ∧ l.phase = .halted why) :
    resumeChannel [byteOf (chanNumber c)] s = s.refuse .state := by
  cases hl : s.link c with
  | none => simp only [resumeChannel, chanOf_byteOf_chanNumber, hl]
  | some l =>
    cases hp : l.phase with
    | halted why => exact absurd ⟨l, why, hl, hp⟩ h
    | opened => simp only [resumeChannel, chanOf_byteOf_chanNumber, hl, hp]
    | draining m a b => simp only [resumeChannel, chanOf_byteOf_chanNumber, hl, hp]

end rules

/-- The outbound-work condition and the decision of a lane that is not idle (R54, R71). -/
theorem Leads.workDecides (s : State) (n : Spur) (col : Column) (ho : col.lane.state ≠ .idleOut)
    (hi : col.lane.state ≠ .idleIn) : ∃ y w, ∀ (js : List Job),
      Leads 3 (s.at n col (.work n :: .decide n :: js))
        (s.at n { col with lane := { col.lane with yieldTimer := y, workSeen := w } } js) := by
  obtain ⟨y, w, hwork⟩ := Leads.workBusy s n col ho hi
  refine ⟨y, w, fun js => (hwork (.decide n :: js)).trans (.nextAt (j := .decide n)
    (decideLane_busy ?_ ?_) (.refl 0 _))⟩
  · rw [State.at_lane]; exact ho
  · rw [State.at_lane]; exact hi

theorem Leads.workDecidesTakes (s : State) (n : Spur) (col : Column) (ho : col.lane.state ≠ .idleOut)
    (hi : col.lane.state ≠ .idleIn) : ∃ y w, ∀ (js : List Job),
      Leads 4 (s.at n col (.work n :: .decide n :: .takeBeats n :: js))
        (s.at n { col with lane := { col.lane with yieldTimer := y, workSeen := w } } js) := by
  obtain ⟨y, w, hwork⟩ := Leads.workDecides s n col ho hi
  exact ⟨y, w, fun js => (hwork (.takeBeats n :: js)).trans (.nextAt (j := .takeBeats n)
    (takeBeats_busy hi) (.refl 0 _))⟩

theorem Store.withContext_withContext (st : Store) (i : Context) (x y : Option Playback) :
    (st.withContext i x).withContext i y = st.withContext i y := by
  simp only [Store.withContext, Vector.set_set]

theorem Pool.not_fits {p : Pool} {d k : Nat} (hw : p.waiting = []) (h : p.claimOrdinary (d + 1) k = none) :
    p.ordinaryFits (d + 1) k = false := by
  rw [← Bool.not_eq_true]
  intro hf
  rw [Pool.claimOrdinary, if_neg (by omega), if_pos ⟨hw, hf⟩] at h
  cases h

section resuming
variable {s : State} {n : Spur} {col : Column} {js : List Job} {c : Chan} {i : Context} {p : Playback}

theorem resumeContext_none (h : s.contextOf c = none) : resumeContext c (s.at n col js) = s.at n col js := by
  simp only [resumeContext, State.at_contextOf, h]

/-- A context that is not PAUSED goes on as it was (R165). -/
theorem resumeContext_keeps (hi : s.contextOf c = some i) (hp : s.context i = some p)
    (hph : p.phase ≠ .paused) : resumeContext c (s.at n col js) = s.at n col js := by
  cases h : p.phase with
  | paused => exact absurd h hph
  | active => simp only [resumeContext, State.at_contextOf, hi, State.at_context, hp, h]
  | waiting => simp only [resumeContext, State.at_contextOf, hi, State.at_context, hp, h]
  | ending => simp only [resumeContext, State.at_contextOf, hi, State.at_context, hp, h]

/-- A PAUSED context becomes ACTIVE and tests its conditions (R165). -/
theorem resumeContext_resumes (hi : s.contextOf c = some i) (hp : s.context i = some p)
    (hph : p.phase = .paused) : resumeContext c (s.at n col js) =
      State.at { s with store := s.store.withContext i (some { p with phase := .active }) } n col
        (.testContext i :: js) := by
  simp only [resumeContext, State.at_contextOf, hi, State.at_context, hp, hph, State.at_setContext,
    State.at_push]
  rfl

theorem testContext_stays (hp : s.context i = some p) (h : 2 ≤ p.count ∨ p.timer = .running) :
    testContext i (s.at n col js) = s.at n col js := by
  have hno : ¬ (p.phase = .active ∧ p.count < 2 ∧ p.timer = .elapsed ∧ s.chanOpen p.chan = true) := by
    rintro ⟨-, hcount, htimer, -⟩
    rcases h with h | h
    · omega
    · rw [h] at htimer
      cases htimer
  simp only [testContext, State.at_context, hp, State.at_chanOpen]
  exact if_neg hno

/-- A context whose claim is refused waits at the tail of the pool's list (R142, R162). -/
theorem testContext_waits {g : Segment} {body : List Byte} (hp : s.context i = some p)
    (hph : p.phase = .active) (hcount : p.count < 2) (htimer : p.timer = .elapsed)
    (hopen : s.chanOpen p.chan = true) (hg : s.segment p.handle = some g)
    (hb : g.entries[p.next - 1]? = some body)
    (hw : s.pool.waiting = []) (hq : s.pool.claimOrdinary 1 (cellsFor body.length) = none) :
    testContext i (s.at n col js) = State.at { s with
      store := s.store.withContext i (some { p with phase := .waiting })
      pool := { s.pool with waiting :=
        [{ who := .context i, descriptors := 1, cells := cellsFor body.length }] } } n col js := by
  have hjoin : ∀ u : State, u.pool = s.pool → u.joinWaiting (.context i) 1 (cellsFor body.length) =
      { u with pool := { s.pool with waiting :=
        [{ who := .context i, descriptors := 1, cells := cellsFor body.length }] } } := by
    intro u hu
    rw [State.joinWaiting, hu, hw]
    rfl
  have hnext : (s.at n col js).nextEntry p = some body := by
    simp only [State.nextEntry, State.at_segment, hg, hb]
  simp only [testContext, State.at_context, hp, State.at_chanOpen,
    if_pos (show p.phase = .active ∧ p.count < 2 ∧ p.timer = .elapsed ∧ s.chanOpen p.chan = true from
      ⟨hph, hcount, htimer, hopen⟩), hnext, State.at_pool, hq, State.at_setContext, State.at_joinWaiting]
  rw [hjoin _ (by exact rfl)]
  rfl

end resuming

/-! ### An IN channel leaves OPEN (R92, R108) -/

section leaving
variable {s : State} {n : Spur} {col : Column} {js : List Job}

/-- The lane whose beat in progress, if any, goes on without testing the gather (R92). -/
def Lane.untested (l : Lane) : Lane :=
  { l with receiving := l.receiving.map fun (x : Receiving) => { x with tests := false } }

theorem dropWaiting_none (h : col.gather.waiting = none) : dropWaiting n (s.at n col js) =
    s.at n { col with lane := col.lane.untested } js := by
  simp only [dropWaiting, State.at_lane, State.at_setLane, State.at_gather, h]
  rfl

theorem acknowledge_unheld (h : ∀ b, col.lane.receiving = some b → b.phase ≠ .held) :
    acknowledge n (s.at n col js) = s.at n col js := by
  cases hr : col.lane.receiving with
  | none => simp only [acknowledge, State.at_lane, hr]
  | some b =>
    have hno : ¬ (b.phase = .held ∧ col.gather.waiting = none) := fun hb => h b hr hb.1
    simp only [acknowledge, State.at_lane, hr, State.at_gather, if_neg hno]

/-- What the decisions of a lane with nothing gathered leave of it, out of IDLE_OUT (R73, R76). -/
structure Lane.Rests (l l' : Lane) : Prop where
  receiving : l'.receiving = l.receiving
  sending : l'.sending = l.sending
  inSnap : l.inSnap = none → l'.inSnap = none
  out : l.state ≠ .idleOut → l'.state ≠ .idleOut
  idle : l'.state = .idleIn → l.state = .idleIn

theorem Lane.Rests.refl (l : Lane) : l.Rests l := ⟨rfl, rfl, id, id, id⟩

theorem Lane.Rests.trans {l1 l2 l3 : Lane} (h : l1.Rests l2) (h' : l2.Rests l3) : l1.Rests l3 :=
  ⟨h'.receiving.trans h.receiving, h'.sending.trans h.sending, h'.inSnap ∘ h.inSnap, h'.out ∘ h.out,
    h.idle ∘ h'.idle⟩

theorem Lane.Rests.of_turnOut {l l' : Lane} (hr : l'.receiving = l.receiving) (hs : l'.sending = l.sending)
    (hi : l'.inSnap = none) (hst : l'.state = .turnOut) : l.Rests l' :=
  ⟨hr, hs, fun _ => hi, fun _ => by rw [hst]; decide, fun h => by rw [hst] at h; cases h⟩

theorem Lane.synced_rests (l : Lane) (work : Bool) : l.Rests (l.synced work) := by
  unfold Lane.synced
  split
  · split
    · exact ⟨rfl, rfl, id, id, id⟩
    · exact .refl l
  · exact ⟨rfl, rfl, id, id, id⟩

/-- The decision in IDLE_IN with nothing gathered (R73, R76). -/
theorem decideIn_empty (hg : col.gather.isPartial = false) : decideIn n (s.at n col js) =
    if col.lane.yieldDue = true then s.at n col (.yieldOut n :: js)
    else if (col.queue.any s.serviceable && !(s.at n col js).attentionHeard n) = true ∨
        (col.lane.config.home = .outward ∧ s.openIn n = none) then
      s.at n { col with lane := { col.lane.stopped.turning .turnOut with yieldTimer := none } } js
    else s.at n col js := by
  simp only [decideIn, State.at_lane, State.at_gather, hg, State.at_outWork, State.at_openIn, turnOut_at,
    State.at_push]
  cases col.lane.yieldDue <;>
    cases col.queue.any s.serviceable && !(s.at n col js).attentionHeard n <;> simp

/-- The decision of a lane out of IDLE_OUT, with nothing gathered in IDLE_IN (R71, R73, R76). -/
theorem Leads.decides (hst : col.lane.state ≠ .idleOut)
    (hg : col.lane.state = .idleIn → col.gather.isPartial = false) : ∃ l : Lane, col.lane.Rests l ∧
      ∀ js, Leads 2 (s.at n col (.decide n :: js)) (s.at n { col with lane := l } js) := by
  by_cases hidle : col.lane.state = .idleIn
  · have hdecide : ∀ js, decideLane n (s.at n col js) = _ := fun js =>
      (decideLane_idleIn (by rw [State.at_lane]; exact hidle)).trans (decideIn_empty (hg hidle))
    by_cases hdue : col.lane.yieldDue = true
    · exact ⟨col.lane.yielded, .of_turnOut rfl rfl rfl rfl, fun js =>
        .nextAt ((hdecide js).trans (if_pos hdue)) (.nextAt (yieldOut_at hidle hdue) (.refl 0 _))⟩
    · by_cases hturn : (col.queue.any s.serviceable && !(s.at n col []).attentionHeard n) = true ∨
          (col.lane.config.home = .outward ∧ s.openIn n = none)
      · exact ⟨{ col.lane.stopped.turning .turnOut with yieldTimer := none }, .of_turnOut rfl rfl rfl rfl,
          fun js => .nextAt ((hdecide js).trans ((if_neg hdue).trans (if_pos hturn))) (.refl 1 _)⟩
      · exact ⟨col.lane, .refl _,
          fun js => .nextAt ((hdecide js).trans ((if_neg hdue).trans (if_neg hturn))) (.refl 1 _)⟩
  · refine ⟨col.lane, .refl _, fun js => .nextAt (decideLane_busy ?_ ?_) (.refl 1 _)⟩
    · rw [State.at_lane]; exact hst
    · rw [State.at_lane]; exact hidle

end leaving

/-- A closure of channel c's gather changes no other channel's link, no response and nothing of the engine. -/
theorem forwarded_frame {s : State} {c : Chan} {l : Link} {cls : DataClass} {bs : List Byte}
    (hl : s.link c = some l) (hr : s.engine.records = none) :
    (∀ d, d ≠ c → (s.forwarded c cls bs).link d = s.link d) ∧
      (s.forwarded c cls bs).arbiter.responses = s.arbiter.responses ∧
      (s.forwarded c cls bs).engine = s.engine := by
  obtain ⟨t, st, p, nb, -, -, heq⟩ := capture_captures (body := bs) hl (.inr hr)
  let u : State := State.setLink { s with store := st, pool := p, notices := nb } c
    (some { l with tee := t })
  have hlink : ∀ d, d ≠ c → u.link d = s.link d := fun d hd => State.link_setLink_ne _ hd _
  have hjoin : ∀ (a : Arbiter) x, (a.join cls x).responses = a.responses := fun a x => by
    cases cls <;> simp only [Arbiter.join] <;> split <;> rfl
  have hrecord : u.record (.overrun c bs.length) =
      { u with notices := nb.arrive (.overrun c bs.length) } := State.record_now (s := u) hr _
  unfold State.forwarded
  rw [heq]
  by_cases hroom : s.arbiter.express.length + s.arbiter.normal.length < 48
  · rw [if_pos (by exact hroom)]
    exact ⟨fun d hd => (State.link_countParcel _ _ _ _).trans (hlink d hd), hjoin _ _, rfl⟩
  · rw [if_neg (by exact hroom), hrecord]
    exact ⟨fun d hd => (State.link_countDrop _ _ _).trans (hlink d hd), rfl, rfl⟩

/-- What a closure leaves is not about the responses that wait, nor about the engine. -/
theorem Forwarded.answered {s u w : State} {c : Chan} {l : Link} {cls : DataClass} {bs : List Byte}
    {code seq : Byte} {st : Status} {results : List Byte} {n : Spur} (h : Forwarded s w c l cls bs)
    (hresponses : w.arbiter.responses = s.arbiter.responses) (hstore : u.store = s.store)
    (hpool : u.pool = s.pool) (hnotices : u.notices = s.notices)
    (harbiter : u.arbiter = { s.arbiter with responses := s.arbiter.responses ++
      [reply code seq st results (decide (code = 4 ∧ st = .ok))] })
    (hparcels : (u.channel c).parcels = (s.channel c).parcels)
    (hbytes : (u.channel c).bytes = (s.channel c).bytes)
    (hdrops : (u.channel c).drops = (s.channel c).drops) (col : Column) (e : Engine) :
    Forwarded u (State.answeredInPlace { w.setColumn n col with engine := e } code seq st results []) c l cls
      bs := by
  let rs := s.arbiter.responses ++ [reply code seq st results (decide (code = 4 ∧ st = .ok))]
  have harbiter' : (State.answeredInPlace { w.setColumn n col with engine := e } code seq st results
      []).arbiter = { w.arbiter with responses := rs } :=
    congrArg (fun x => ({ w.arbiter with responses := x ++ _ } : Arbiter)) hresponses
  obtain ⟨link, p, nb, hcap, hlink, hroom, hfull⟩ := h
  have hcap' : Captured u l bs link w.store p nb := by
    unfold Captured State.segment at hcap ⊢
    rw [hstore, hpool, hnotices]
    exact hcap
  refine ⟨link, p, nb, hcap', hlink, fun hlt => ?_, fun hle => ?_⟩
  · have hlt' : s.arbiter.express.length + s.arbiter.normal.length < 48 := by rwa [harbiter] at hlt
    obtain ⟨h1, h2, h3, h4, h5, h6, h7⟩ := hroom hlt'
    rw [harbiter, hparcels, hbytes, hdrops, harbiter']
    exact ⟨h1, h2, fun hj => congrArg (fun a : Arbiter => { a with responses := rs }) (h3 hj),
      fun hj => congrArg (fun a : Arbiter => { a with responses := rs }) (h4 hj), h5, h6, h7⟩
  · have hle' : 48 ≤ s.arbiter.express.length + s.arbiter.normal.length := by rwa [harbiter] at hle
    obtain ⟨h1, h2, h3, h4, h5, h6⟩ := hfull hle'
    rw [harbiter, hparcels, hbytes, hdrops, harbiter']
    exact ⟨congrArg (fun a : Arbiter => { a with responses := rs }) h1, h2, h3, h4, h5, h6⟩

/-- The state in which the rules of HALT CHANNEL begin, with the request held (R28). -/
def State.halting (s : State) (seq : Byte) (c : Chan) (h : Link) : State :=
  (s.executing 12 seq [byteOf (chanNumber c)]).relinked c (some h) s.notices (s.pool.holding 3) s.store

section halting
variable (s : State) (seq : Byte) (c : Chan) (h : Link)

theorem halting_tx : (s.halting seq c h).handRecords.tx = s.tx := rfl
theorem halting_agenda : (s.halting seq c h).handRecords.agenda = [] := rfl
theorem halting_notices : (s.halting seq c h).handRecords.notices = s.notices := rfl
theorem halting_pool : (s.halting seq c h).handRecords.pool = s.pool.holding 3 := rfl
theorem halting_store : (s.halting seq c h).handRecords.store = s.store := rfl
theorem halting_arbiter : (s.halting seq c h).handRecords.arbiter = s.arbiter := rfl
theorem halting_records : (s.halting seq c h).handRecords.engine.records = none := rfl
theorem halting_channel : (s.halting seq c h).handRecords.channel c =
    { s.channel c with link := some h } := State.channel_setChannel s c _
theorem halting_link : (s.halting seq c h).handRecords.link c = some h := State.link_setLink s c _
theorem halting_link_ne {d : Chan} (hd : d ≠ c) : (s.halting seq c h).handRecords.link d = s.link d :=
  State.link_setLink_ne s hd _

end halting

section haltInbound
variable {s : State} {seq : Byte} {c : Chan} {l : Link} {n : Spur} (hs : Settled s)
  (he : Ready s 12 seq 1 0) (hl : s.link c = some l) (hopen : l.isOpen = true) (hin : l.isIn = true)
  (hn : l.spur = n) (hc : s.inChan n = some c) (hst : (s.lane n).state ≠ .idleOut)
  (hwait : (s.gather n).waiting = none)
  (hheld : ∀ b, (s.lane n).receiving = some b → b.phase ≠ .held)

/-- The column of a channel that is halted, once a byte that waits for the pool has been dropped (R92). -/
def Column.untested (col : Column) : Column := { col with lane := col.lane.untested }

/-- What a HALT CHANNEL on an IN channel leaves, whatever its gather held (R28, R92, R108). -/
structure HaltedIn (s : State) (seq : Byte) (c : Chan) (n : Spur) (t : State) : Prop where
  next : exec (.haltChannel seq [byteOf (chanNumber c)]) s = .next t
  responses : t.arbiter.responses = s.arbiter.responses ++ [reply 12 seq .ok [] false]
  links : ∀ c', c' ≠ c → t.link c' = s.link c'
  sending : (t.lane n).sending = (s.lane n).sending
  queue : t.queue n = s.queue n
  inSnap : (t.lane n).inSnap = none
  state : (t.gather n).state = .empty
  idleTimer : (t.gather n).idleTimer = none
  receiving : (t.lane n).receiving = (s.lane n).receiving.map fun b => { b with tests := false }

/-- What follows the closure of the gather of a channel that is halted (R28, R108). -/
def haltRest (n : Spur) : List Job :=
  [.stopTaking n, .acknowledge n, .decide n, .respond .ok [], .arbiter]

include hs he hl hopen hin hn hc hst hwait hheld

/-- An IN channel that is halted, up to the closure of its gather (R28, R92, R108): the lane stops taking
beats, and its beat in progress goes on. -/
theorem haltChannel_closes {v w : State} {ks : List Job} (hw : v.handRecords = w)
    (hopen' : v.openIn n = none) (hwait' : v.pool.waiting = []) (hks : ks = [] ∨ ks = [.serve])
    (hclose : closeGather n .halt ((s.halting seq c { l with phase := .halted .host }).at n
      (s.column n).untested (haltRest n)) =
        v.at n (s.column n).untested.closed (ks ++ .retake n :: haltRest n))
    (hengine : w.engine = (s.halting seq c { l with phase := .halted .host }).handRecords.engine)
    (htx : w.tx = s.tx) (hagenda : w.agenda = [])
    (hresponses : w.arbiter.responses = s.arbiter.responses)
    (hlinks : ∀ c', c' ≠ c → w.link c' = s.link c') : ∃ col, HaltedIn s seq c n
      (State.answeredInPlace { w.setColumn n col with engine := s.engine } 12 seq .ok [] []) := by
  subst hn
  let ps := [byteOf (chanNumber c)]
  let col2 : Column := { (s.column l.spur).untested.closed with
    lane := (s.lane l.spur).untested.stopped }
  obtain ⟨l', hrests, hdecide⟩ := Leads.decides (s := v) (n := l.spur) (col := col2) hst fun _ => rfl
  have hunheld : ∀ b, col2.lane.receiving = some b → b.phase ≠ .held := by
    intro b hb
    obtain ⟨b', hb', rfl⟩ := Option.map_eq_some_iff.mp hb
    exact hheld b' hb'
  have hleads : Leads 8 ((s.halting seq c { l with phase := .halted .host }).at l.spur (s.column l.spur)
      (.dropWaiting l.spur :: .closeGather l.spur .halt :: haltRest l.spur))
      (v.at l.spur { col2 with lane := l' } [.respond .ok [], .arbiter]) :=
    .nextAt (dropWaiting_none hwait) (.closes hwait' hks hclose
      (.nextAt (retake_closed hopen') (.nextAt (stopTaking_at _ _ _ _)
        (.nextAt (j := .acknowledge l.spur) (acknowledge_unheld hunheld) (hdecide _)))))
  have hstart := relinked_at (s := s.executing 12 seq ps) (n := l.spur)
    (js := .dropWaiting l.spur :: .closeGather l.spur .halt :: haltRest l.spur)
    (u := (s.executing 12 seq ps).setLink c (some { l with phase := .halted .host })) rfl
  have hx := haltChannel_halts (s := s.executing 12 seq ps) hl hopen
  rw [haltJobs, if_pos hin] at hx
  let col' : Column := { col2 with lane := l' }
  have hcolumn := State.column_setColumn w l.spur col'
  refine ⟨col', ?_, congrArg (· ++ _) hresponses, hlinks,
    (congrArg (fun col : Column => col.lane.sending) hcolumn).trans hrests.sending,
    (congrArg Column.queue hcolumn).trans rfl,
    (congrArg (fun col : Column => col.lane.inSnap) hcolumn).trans (hrests.inSnap rfl),
    congrArg (fun col : Column => col.gather.state) hcolumn,
    congrArg (fun col : Column => col.gather.idleTimer) hcolumn,
    (congrArg (fun col : Column => col.lane.receiving) hcolumn).trans hrests.receiving⟩
  refine request_ends_handed (v := v.setColumn l.spur col') (w := w.setColumn l.spur col') (ps := ps)
    (n := 8) hs he rfl hx (hstart.symm ▸ hleads) rfl (by norm_num)
    (congrArg (fun x : State => x.setColumn l.spur col') hw) (hengine.trans (he.handed ps)) htx
    (hagenda.trans hs.agenda.symm) fun x hx => serve_alone ?_
  rw [hx]
  exact (congrArg (fun y : State => y.pool.waiting) hw).symm.trans hwait'

theorem haltChannel_empty (hg : (s.gather n).state = .empty) : ∃ t, HaltedIn s seq c n t ∧
    t.link c = some { l with phase := .halted .host } ∧ t.notices = s.notices ∧ t.store = s.store ∧
    t.pool = s.pool.holding 3 ∧ t.arbiter = { s.arbiter with
      responses := s.arbiter.responses ++ [reply 12 seq .ok [] false] } := by
  let h : Link := { l with phase := .halted .host }
  have hclosed : (s.halting seq c h).openIn n = none := State.openIn_closed (s := s) hc hl rfl rfl rfl
  obtain ⟨col, hhalted⟩ := haltChannel_closes hs he hl hopen hin hn hc hst hwait hheld
    (v := s.halting seq c h) (ks := []) rfl hclosed hs.alone (.inl rfl) (closeGather_empty hg) rfl
    (halting_tx s seq c h) (halting_agenda s seq c h)
    (congrArg Arbiter.responses (halting_arbiter s seq c h)) fun c' hc' => halting_link_ne s seq c h hc'
  exact ⟨_, hhalted, halting_link s seq c h, halting_notices s seq c h, halting_store s seq c h,
    halting_pool s seq c h, congrArg (fun a : Arbiter => { a with
      responses := a.responses ++ [reply 12 seq .ok [] false] }) (halting_arbiter s seq c h)⟩

theorem haltChannel_forwards {cls : DataClass} {bs : List Byte} (hg : (s.gather n).state = .filling c cls bs)
    (hb : bs ≠ []) : ∃ t, HaltedIn s seq c n t ∧ Forwarded
      { s with
        pool := s.pool.holding 3
        arbiter := { s.arbiter with
          responses := s.arbiter.responses ++ [reply 12 seq .ok [] false] } } t c
      { l with phase := .halted .host } cls bs := by
  let h : Link := { l with phase := .halted .host }
  have hclosed : (s.halting seq c h).openIn n = none := State.openIn_closed (s := s) hc hl rfl rfl rfl
  have hlink := halting_link s seq c h
  have hrecords := halting_records s seq c h
  obtain ⟨hforward, hto⟩ := forwarded_forwards (cls := cls) (bs := bs) hlink (.inr hrecords)
  obtain ⟨hlinks, hresponses, hengine⟩ := forwarded_frame (cls := cls) (bs := bs) hlink hrecords
  obtain ⟨ks, hks, hclose⟩ := closeGather_forwards (s := s.halting seq c h) (n := n)
    (col := (s.column n).untested) (js := haltRest n) (k := .halt) hg (.inl hb) (by decide)
  have hw := handRecords_forwarded (s.halting seq c h) c cls bs
  obtain ⟨col, hhalted⟩ := haltChannel_closes hs he hl hopen hin hn hc hst hwait hheld hw
    ((congrArg (fun x : State => x.openIn n) hw).trans ((hto.map.openIn n).trans hclosed))
    ((congrArg (fun x : State => x.pool.waiting) hw).trans (hto.waiting.trans hs.alone)) hks hclose hengine
    (hto.tx.trans (halting_tx s seq c h)) (hto.agenda.trans (halting_agenda s seq c h))
    (hresponses.trans (congrArg Arbiter.responses (halting_arbiter s seq c h)))
    fun c' hc' => (hlinks c' hc').trans (halting_link_ne s seq c h hc')
  have hchannel := halting_channel s seq c h
  let u : State := { s with
    pool := s.pool.holding 3
    arbiter := { s.arbiter with
      responses := s.arbiter.responses ++ [reply 12 seq .ok [] false] } }
  have harbiter : u.arbiter = { (s.halting seq c h).handRecords.arbiter with
      responses := (s.halting seq c h).handRecords.arbiter.responses ++ [reply 12 seq .ok [] false] } :=
    congrArg (fun a : Arbiter => { a with
      responses := a.responses ++ [reply 12 seq .ok [] false] }) (halting_arbiter s seq c h).symm
  exact ⟨_, hhalted, hforward.answered (u := u) hresponses (halting_store s seq c h).symm
    (halting_pool s seq c h).symm (halting_notices s seq c h).symm harbiter
    (congrArg Channel.parcels hchannel).symm (congrArg Channel.bytes hchannel).symm
    (congrArg Channel.drops hchannel).symm col s.engine⟩

theorem haltChannel_overruns {m : Nat} (hg : (s.gather n).state = .losing m) : ∃ t, HaltedIn s seq c n t ∧
    t.link c = some { l with phase := .halted .host } ∧ t.notices = s.notices.arrive (.overrun c m) ∧
    t.store = s.store ∧ t.pool = s.pool.holding 3 ∧ t.arbiter = { s.arbiter with
      responses := s.arbiter.responses ++ [reply 12 seq .ok [] false] } ∧
    (t.channel c).drops = satInc (s.channel c).drops ∧ (t.channel c).parcels = (s.channel c).parcels ∧
    (t.channel c).bytes = (s.channel c).bytes := by
  let h : Link := { l with phase := .halted .host }
  have hclosed : (s.halting seq c h).openIn n = none := State.openIn_closed (s := s) hc hl rfl rfl rfl
  have hchan : (s.halting seq c h).inChan n = some c :=
    (State.inChan_setLink (s := s) (l' := h) hl rfl rfl n).trans hc
  let e := (s.halting seq c h).handRecords
  have hrecords : e.engine.records = none := halting_records s seq c h
  have hto := State.overran_closesTo (s := e) (c := c) hrecords m
  have hw : ((s.halting seq c h).overran c m).handRecords =
      State.countDrop { e with notices := e.notices.arrive (.overrun c m) } c :=
    (handRecords_overran _ c m).trans (State.overran_now hrecords m)
  rw [State.overran_now hrecords] at hto
  obtain ⟨col, hhalted⟩ := haltChannel_closes hs he hl hopen hin hn hc hst hwait hheld hw
    ((congrArg (fun x : State => x.openIn n) hw).trans ((hto.map.openIn n).trans hclosed))
    ((congrArg (fun x : State => x.pool.waiting) hw).trans (hto.waiting.trans hs.alone)) (ks := []) (.inl rfl)
    (closeGather_overruns (by exact hg) hchan (by decide)) rfl (hto.tx.trans (halting_tx s seq c h))
    (hto.agenda.trans (halting_agenda s seq c h)) (congrArg Arbiter.responses (halting_arbiter s seq c h))
    fun c' hc' => (State.link_countDrop _ c c').trans (halting_link_ne s seq c h hc')
  obtain ⟨hlink, hnotices, hpool, harbiter, hstore, hdrops, hparcels, hbytes⟩ :=
    State.overran_frame (s := e) (halting_link s seq c h) m n col
  have hchannel : e.channel c = _ := halting_channel s seq c h
  refine ⟨_, hhalted, hlink, hnotices, hstore, hpool, congrArg (fun a : Arbiter => { a with
    responses := a.responses ++ [reply 12 seq .ok [] false] }) harbiter, hdrops.trans ?_,
    hparcels.trans ?_, hbytes.trans ?_⟩ <;> rw [hchannel]

end haltInbound

/-- Settles O40. -/
theorem haltAndResume : Obligations.HaltAndResume := by
  unfold Obligations.HaltAndResume
  intro s seq c hs halt resume busy common
  let ps := [byteOf (chanNumber c)]
  have hcells : cellsFor (([] : List Byte).length + 3) = cellsFor (ps.length + 2) := rfl
  refine ⟨fun he => ⟨fun hno => ?_, fun l hl hopen => ?_⟩, fun he => ⟨fun hno => ?_, fun l why hl hp hb => ?_⟩⟩
  · refine request_refuses (ps := ps) hs he rfl (haltChannel_state (s := s.executing 12 seq ps) fun l hl => ?_)
    rw [← Bool.not_eq_true]
    intro hopen
    refine hno ⟨l, hl, ?_⟩
    unfold Link.isOpen at hopen
    cases hp : l.phase <;> simp_all
  · intro n h
    have hisopen : l.isOpen = true := by simp only [Link.isOpen, hopen]
    refine ⟨fun hout hbusy => ?_, fun hin hc hst hwait hheld => ?_⟩
    · let e := s.executing 12 seq ps
      obtain ⟨st, hnone, hsome, hothers, hsegments, hpause⟩ := Leads.pauses
        (e.relinked c (some h) s.notices (s.pool.holding 3) s.store) n (s.column n) c hs.alone
      obtain ⟨y, w, hwork⟩ := Leads.workDecides
        (e.relinked c (some h) s.notices (s.pool.holding 3) st) n (s.column n) hbusy.1 hbusy.2
      have hx := haltChannel_halts (s := e) hl hisopen
      rw [haltJobs, if_neg (by rw [hout]; decide)] at hx
      have hexec := request_relinks (ps := ps) (c := c) (n := n) (m := 4) (lk' := some h)
        (ks := [.pauseContext c, .work n, .decide n]) hs he rfl hx hcells
        ((hpause _).trans (hwork _)) (by norm_num) (fun v hv => serve_alone (by rw [hv]; exact hs.alone))
      have hlane := State.column_setColumn (s.relinked c (some h) s.notices (s.pool.holding 3) st) n
        { s.column n with lane := { s.lane n with yieldTimer := y, workSeen := w } }
      refine ⟨_, ⟨hexec, rfl, fun c' hc' => State.link_setLink_ne s hc' _, ?_⟩, State.link_setLink s c _, ?_,
        rfl, rfl, hnone, fun i p hi hp => ⟨?_, fun j hj => ?_, fun k => ?_⟩⟩
      · exact (congrArg (fun col : Column => col.lane.sending) hlane).trans rfl
      · exact (congrArg Column.queue hlane).trans rfl
      · have hst : st = s.store.withContext i (some p.halted) := hsome i p hi hp
        rw [hst]
        exact (Store.withContext_context _ _ _ i).trans (if_pos rfl)
      · have hst : st = s.store.withContext i (some p.halted) := hsome i p hi hp
        rw [hst]
        exact (Store.withContext_context _ _ _ j).trans (if_neg hj)
      · exact congrArg (fun v : Vector (Option Segment) 16 => v[k.val]) hsegments
    · intro u stopped
      have hstopped : ∀ {t}, HaltedIn s seq c n t → stopped t := fun ht =>
        ⟨⟨ht.next, ht.responses, ht.links, ht.sending⟩, ht.queue, ht.inSnap, ht.state, ht.idleTimer,
          ht.receiving⟩
      refine ⟨fun hg => ?_, fun cls bs hg hb => ?_, fun m hg => ?_⟩
      · obtain ⟨t, ht, hrest⟩ := haltChannel_empty hs he hl hisopen hin rfl hc hst hwait hheld hg
        exact ⟨t, hstopped ht, hrest⟩
      · obtain ⟨t, ht, hforward⟩ := haltChannel_forwards hs he hl hisopen hin rfl hc hst hwait hheld hg hb
        exact ⟨t, hstopped ht, hforward⟩
      · obtain ⟨t, ht, hrest⟩ := haltChannel_overruns hs he hl hisopen hin rfl hc hst hwait hheld hg
        exact ⟨t, hstopped ht, hrest⟩
  · exact request_refuses (ps := ps) hs he rfl (resumeChannel_state (s := s.executing 13 seq ps) hno)
  · intro n pool resumed turned
    let e := s.executing 13 seq ps
    let o : Link := { l with phase := .opened }
    let v (p : Pool) (st : Store) : State := e.relinked c (some o) s.notices p st
    let rest : List Job := [.work n, .decide n, .takeBeats n, .respond .ok [], .arbiter]
    have hx := resumeChannel_resumes (s := e) hl hp
    have hends : ∀ {k : Nat} {q : List Outbound} {st : Store} {p : Pool} {y : Option Byte} {w : Bool},
        Leads k ((v pool s.store).at n (s.column n) (.resumeContext c :: rest)) ((v p st).at n
          { s.column n with
            queue := s.queue n ++ q, lane := { s.lane n with yieldTimer := y, workSeen := w } } rest) →
        k ≤ 100 → (∀ u : State, u.pool = p → serve u = u) → ∃ t, resumed t q st p := by
      intro k q st p y w hleads hk hserve
      obtain ⟨y', w', hwork⟩ := Leads.workDecidesTakes (v p st) n { s.column n with
        queue := s.queue n ++ q, lane := { s.lane n with yieldTimer := y, workSeen := w } } hb.1 hb.2
      have hexec := request_relinks (ps := ps) (c := c) (n := n) (m := k + 4) (lk' := some o)
        (ks := [.resumeContext c, .work n, .decide n, .takeBeats n]) hs he rfl hx hcells
        (hleads.trans (hwork _)) (by omega) hserve
      have hcolumn := State.column_setColumn (s.relinked c (some o) s.notices p st) n { s.column n with
        queue := s.queue n ++ q, lane := { s.lane n with yieldTimer := y', workSeen := w' } }
      exact ⟨_, ⟨hexec, rfl, fun c' hc' => State.link_setLink_ne s hc' _,
        (congrArg (fun col : Column => col.lane.sending) hcolumn).trans rfl⟩, State.link_setLink s c _,
        (congrArg Column.queue hcolumn).trans rfl, rfl, rfl, rfl⟩
    have halone : ∀ u : State, u.pool = pool → serve u = u := fun u hu =>
      serve_alone (by rw [hu]; exact hs.alone)
    have hquiet : ∀ {k : Nat} {st : Store} {p : Pool},
        Leads k ((v pool s.store).at n (s.column n) (.resumeContext c :: rest))
          ((v p st).at n (s.column n) rest) →
        k ≤ 100 → (∀ u : State, u.pool = p → serve u = u) → ∃ t, resumed t [] st p := by
      intro k st p hleads hk hserve
      refine hends (q := []) (y := (s.lane n).yieldTimer) (w := (s.lane n).workSeen) ?_ hk hserve
      rw [List.append_nil]
      exact hleads
    have hcontext : ∀ (p : Playback) (i : Context),
        (v pool (s.store.withContext i (some { p with phase := .active }))).context i =
          some { p with phase := .active } := fun p i => Vector.getElem_set_self _
    have hopened : ∀ {i : Context} {p : Playback} {st : Store}, s.contextOf c = some i →
        s.context i = some p → (v pool st).chanOpen p.chan = true := by
      intro i p st hi hp
      obtain ⟨q, hq, hchan⟩ := State.contextOf_some hi
      obtain rfl : p = q := Option.some.inj (hp.symm.trans hq)
      have hlink : (v pool st).link c = some o := State.link_setLink s c _
      rw [State.chanOpen, hchan, hlink]
      rfl
    refine ⟨fun hnone => hquiet (k := 1) (.nextAt (resumeContext_none hnone) (.refl 0 _)) (by norm_num) halone,
      fun i p hi hp => ⟨fun hph => hquiet (k := 1) (.nextAt (resumeContext_keeps hi hp hph) (.refl 0 _))
        (by norm_num) halone, fun hph hquiet' => ?_,
        fun g body hph hcount htimer hn hspacing hg hnext hbody => ⟨fun q hq hmore => ?_, fun hq => ?_⟩⟩⟩
    · refine hquiet (k := 2) (.nextAt (resumeContext_resumes hi hp hph) (.nextAt (testContext_stays
        (p := { p with phase := .active }) (hcontext p i) hquiet') (.refl 0 _))) (by norm_num) halone
    · let p1 : Playback := { p with phase := .active }
      have hchan := hopened (st := s.store.withContext i (some p1)) hi hp
      obtain ⟨y, w, hemits⟩ := Leads.emits (s := v pool (s.store.withContext i (some p1))) (n := n)
        (col := s.column n) (hcontext p i) rfl hcount htimer hchan hg hbody hq hn hspacing
        hb.1 hb.2
      rw [Playback.emitted_next (x := p1) hmore hspacing] at hemits
      have hserve : ∀ u : State, u.pool = q → serve u = u := by
        intro u hu
        obtain ⟨-, -, -, hwaiting⟩ := Pool.claimOrdinary_frame hq
        exact serve_alone (by rw [hu]; exact hwaiting.trans hs.alone)
      obtain ⟨t, ht⟩ := hends (k := 4) (q := [p1.entry i body]) (.nextAt (resumeContext_resumes hi hp hph)
        (hemits rest)) (by norm_num) hserve
      have hstore : ∀ y, (v pool (s.store.withContext i (some p1))).store.withContext i y =
          s.store.withContext i y := fun y => Store.withContext_withContext _ i _ y
      rw [hstore] at ht
      exact ⟨t, ht⟩
    · let p1 : Playback := { p with phase := .active }
      have hchan := hopened (st := s.store.withContext i (some p1)) hi hp
      have hserve : ∀ u : State, u.pool = { pool with waiting :=
          [{ who := .context i, descriptors := 1, cells := cellsFor body.length }] } → serve u = u := by
        intro u hu
        refine serve_refused (by rw [hu]) ?_
        rw [hu]
        exact Pool.not_fits (p := pool) hs.alone hq
      have htest := testContext_waits (s := v pool (s.store.withContext i (some p1))) (n := n)
        (col := s.column n) (js := rest) (hcontext p i) rfl hcount htimer hchan hg hbody hs.alone hq
      obtain ⟨t, ht⟩ := hquiet (k := 2) (.nextAt (resumeContext_resumes hi hp hph)
        (.nextAt (j := .testContext i) htest (.refl 0 _))) (by norm_num) hserve
      have hstore : ∀ y, (v pool (s.store.withContext i (some p1))).store.withContext i y =
          s.store.withContext i y := fun y => Store.withContext_withContext _ i _ y
      rw [hstore] at ht
      exact ⟨t, ht⟩

end Sys2Proof.Machine
end

section
/-! CLOSE CHANNEL (02, sections 2.6 and 2.7): the table of R30, entry to DRAINING, and the drain completion
test of the channel that enters. -/

namespace Sys2Proof.Machine

-- the proofs are elaborated one after another: all at once they ask for too many threads
set_option Elab.async false

/-! ### The table of R30 -/

section table
variable {s : State} {c : Chan} {l : Link} {m : CloseMode}

/-- The parameters of a CLOSE CHANNEL. -/
def closeParams (c : Chan) (m : CloseMode) : List Byte :=
  [byteOf (chanNumber c), match m with | .drain => 0 | .discard => 1]

theorem closeChannel_eq (s : State) : closeChannel (closeParams c m) s = closeAs c m s := by
  cases m <;> simp [closeChannel, closeParams, chanOf_byteOf_chanNumber, twoWay]

theorem closeAs_closed (hl : s.link c = none) : closeAs c m s = s.refuse .state := by
  simp only [closeAs, hl]

theorem closeAs_again {m' : CloseMode} {a b : Byte} (hl : s.link c = some l)
    (hp : l.phase = .draining m' a b) : closeAs c .drain s = s.refuse .state := by
  cases m' <;> simp only [closeAs, hl, hp]

theorem closeAs_discarding {a b : Byte} (hl : s.link c = some l) (hp : l.phase = .draining .discard a b) :
    closeAs c .discard s = { state := s, status := .accepted, results := [] } := by
  simp only [closeAs, hl, hp]

theorem closeAs_enters {m' : CloseMode} (hl : s.link c = some l)
    (h : l.phase = .opened ∧ m' = m ∨ (∃ why, l.phase = .halted why) ∧ m' = .discard) :
    closeAs c m s = {
      state := (s.setLink c (some { l with phase := .draining m' 0 0 })).push (drainJobs c l m')
      status := .accepted, results := [] } := by
  rcases h with ⟨hp, rfl⟩ | ⟨⟨why, hp⟩, rfl⟩ <;>
    simp only [closeAs, hl, hp, enterDraining, State.setPhase]

theorem closeAs_upgrades {a b : Byte} (hl : s.link c = some l) (hp : l.phase = .draining .drain a b) :
    closeAs c .discard s = {
      state := (s.setLink c (some { l with phase := .draining .discard a b })).push
        ((if l.isIn then [] else [.discardQueued c]) ++ [.drainTest c])
      status := .accepted, results := [] } := by
  simp only [closeAs, hl, hp, upgradeDrain, State.setPhase]

end table

/-! ### What a CLOSE CHANNEL touches -/

/-- What a CLOSE CHANNEL on channel c touches beside its spur: the channel, the return path, the pool, and the
records that its execution holds back (R176). -/
structure Touched where
  channel : Channel
  arbiter : Arbiter
  notices : Notices
  pool : Pool
  records : List Record

/-- What an execution finds of it. -/
def State.touchable (s : State) (c : Chan) : Touched :=
  { channel := s.channel c, arbiter := s.arbiter, notices := s.notices, pool := s.pool, records := [] }

/-- The part in an execution that has touched so much of it. -/
def State.touched (s : State) (c : Chan) (x : Touched) : State :=
  { s.setChannel c x.channel with
    arbiter := x.arbiter, notices := x.notices, pool := x.pool
    engine := { s.engine with records := some x.records } }

/-- The channel with another link. -/
def Touched.linked (x : Touched) (l : Option Link) : Touched :=
  { x with channel := { x.channel with link := l } }

section touched
variable {s : State} {c : Chan} {x : Touched}

theorem touched_channel : (s.touched c x).channel c = x.channel := State.channel_setChannel s c _

theorem touched_link : (s.touched c x).link c = x.channel.link :=
  congrArg Channel.link touched_channel

theorem touched_setChannel (y : Channel) :
    (s.touched c x).setChannel c y = s.touched c { x with channel := y } :=
  congrArg (fun u : State => { u with
    arbiter := x.arbiter, notices := x.notices, pool := x.pool
    engine := { s.engine with records := some x.records } }) (State.setChannel_setChannel s c _ y)

theorem touched_setLink (l : Option Link) : (s.touched c x).setLink c l = s.touched c (x.linked l) := by
  rw [State.setLink, touched_channel, touched_setChannel]
  rfl

theorem touched_record (r : Record) :
    (s.touched c x).record r = s.touched c { x with records := x.records ++ [r] } :=
  State.record_later (s := s.touched c x) (l := x.records) rfl r

theorem touched_unlinked (nb : Notices) : State.setLink { s.touched c x with notices := nb } c none =
    s.touched c { x.linked none with notices := nb } :=
  touched_setLink (s := s) (c := c) (x := { x with notices := nb }) none

end touched

/-- The state that a CLOSE CHANNEL which is accepted leaves: x is what it touched, with the pool as it stands
without the request's storage, and col the column of its spur. -/
structure ClosedTo (s : State) (i : Instr) (seq : Byte) (c : Chan) (n : Spur) (x : Touched) (col : Column)
    (t : State) : Prop where
  next : exec i s = .next t
  channel : t.channel c = x.channel
  column : t.column n = col
  notices : t.notices = x.records.foldl Notices.arrive x.notices
  pool : t.pool = x.pool.holding 3
  arbiter : t.arbiter = { x.arbiter with
    responses := x.arbiter.responses ++ [reply 11 seq .accepted [] false] }

theorem ClosedTo.link {s t : State} {i : Instr} {seq : Byte} {c : Chan} {n : Spur} {x : Touched} {col : Column}
    (h : ClosedTo s i seq c n x col t) : t.link c = x.channel.link := congrArg Channel.link h.channel

/-- A CLOSE CHANNEL that is accepted, its rules followed to the response (R30, R174, R176). -/
theorem close_accepted {s : State} {seq : Byte} {c : Chan} {mode : CloseMode} {k : Link} {js : List Job}
    {n : Spur} {x : Touched} {col : Column} {m : Nat} (hs : Settled s) (he : Ready s 11 seq 2 0)
    (hx : closeAs c mode (s.executing 11 seq (closeParams c mode)) = {
      state := ((s.executing 11 seq (closeParams c mode)).setLink c (some k)).push js
      status := .accepted, results := [] })
    (hl : Leads m (((s.executing 11 seq (closeParams c mode)).touched c
        (((s.executing 11 seq (closeParams c mode)).touchable c).linked (some k))).at n (s.column n)
          (js ++ [.respond .accepted [], .arbiter]))
      (((s.executing 11 seq (closeParams c mode)).touched c { x with pool := x.pool.holding 4 }).at n col
        [.respond .accepted [], .arbiter]))
    (hm : m ≤ 1000000) (hw : x.pool.waiting = []) (hd : 1 ≤ x.pool.freeDescriptors)
    (hc : 1 ≤ x.pool.freeCells) :
    ∃ t, ClosedTo s (.closeChannel seq (closeParams c mode)) seq c n x col t := by
  let ps := closeParams c mode
  let e := s.executing 11 seq ps
  let t : State := State.setColumn { s.setChannel c x.channel with
    arbiter := x.arbiter, notices := x.notices, pool := x.pool } n col
  have hstart : ((e.setLink c (some k)).push js).doing
      (((e.setLink c (some k)).push js).agenda ++ [.respond .accepted [], .arbiter]) =
      (e.touched c ((e.touchable c).linked (some k))).at n (s.column n)
        (js ++ [.respond .accepted [], .arbiter]) := by
    have hagenda : ((e.setLink c (some k)).push js).agenda = js := List.append_nil js
    rw [hagenda]
    exact ((e.setLink c (some k)).at_self n _).symm
  have hcells : cellsFor (ps.length + 2) = 1 := by
    show cellsFor 4 = 1
    decide
  have hexec : exec (.closeChannel seq ps) s = .next (State.answered
      { t with notices := x.records.foldl Notices.arrive t.notices } 11 seq .accepted []) :=
    request_ends (u := (e.setLink c (some k)).push js) (t := t) (ps := ps) (rs := x.records) hs he rfl
      ((closeChannel_eq e).trans hx) (hstart ▸ hl) hm rfl rfl rfl hw hd (hcells ▸ hc) hc
  exact ⟨_, hexec, State.channel_setChannel s c _, State.column_setColumn (s.setChannel c x.channel) n col, rfl,
    rfl, rfl⟩

/-! ### The rules of entry to DRAINING (R31, R33, R38) -/

section entering
variable {s : State} {c : Chan} {l : Link} {n : Spur} {col : Column} {js : List Job} {x : Touched}

theorem dropTee_untied (hl : s.link c = some l) (ht : l.tee = none) :
    dropTee c (s.at n col js) = s.at n col js := by
  simp only [dropTee, State.at_link, hl, ht]

theorem endContext_none (h : s.contextOf c = none) : endContext c (s.at n col js) = s.at n col js := by
  simp only [endContext, State.at_contextOf, h]

/-- A lane out of IDLE_OUT, with nothing gathered in IDLE_IN. -/
def Column.restful (col : Column) : Prop :=
  col.lane.state ≠ .idleOut ∧ (col.lane.state = .idleIn → col.gather.isPartial = false)

theorem Column.restful.rests {l : Lane} (h : col.restful) (hr : col.lane.Rests l) :
    Column.restful { col with lane := l } := ⟨hr.out h.1, fun hi => h.2 (hr.idle hi)⟩

/-- The outbound-work condition of such a lane (R54, R71). -/
theorem Leads.works (h : col.restful) : ∃ l : Lane, col.lane.Rests l ∧
    ∀ js, Leads 3 (s.at n col (.work n :: js)) (s.at n { col with lane := l } js) := by
  let l1 := col.lane.synced (col.queue.any s.serviceable)
  have hsync : col.lane.Rests l1 := Lane.synced_rests _ _
  by_cases hseen : col.queue.any s.serviceable = l1.workSeen
  · refine ⟨l1, hsync, fun js => .nextAt (u := s.at n { col with lane := l1 } js) ?_ (.refl 2 _)⟩
    show work n (s.at n col js) = _
    simp only [work, syncYield_at, State.at_outWork, State.at_lane]
    rw [if_pos hseen]
  · let l2 : Lane := { l1 with workSeen := col.queue.any s.serviceable }
    have hseen2 : col.lane.Rests l2 := hsync.trans ⟨rfl, rfl, id, id, id⟩
    obtain ⟨l3, hrests, hdecide⟩ := Leads.decides (s := s) (n := n) (col := { col with lane := l2 })
      (h.rests hseen2).1 (h.rests hseen2).2
    refine ⟨l3, hseen2.trans hrests, fun js => .nextAt (u := s.at n { col with lane := l2 }
      (.decide n :: js)) ?_ (hdecide js)⟩
    show work n (s.at n col js) = _
    simp only [work, syncYield_at, State.at_outWork, State.at_lane]
    rw [if_neg hseen]
    simp only [State.at_setLane, State.at_push]
    rfl

/-- The queued parcels of an OUT channel in a drain are removed (R33, R65). -/
theorem Leads.discards {limit k : Nat} {m : CloseMode} {a b : Byte} (hl : x.channel.link = some l)
    (hd : l.dir = .outbound limit k) (hp : l.phase = .draining m a b) (hn : l.spur = n)
    (hw : x.pool.waiting = []) (h : col.restful) {gone : List Outbound} {p : Pool}
    (hgone : (col.queue.filter fun e => e.chan = c) = gone)
    (hpool : x.pool.put false gone.length (gone.map fun e => cellsFor e.body.length).sum = p) :
    ∃ l' : Lane, col.lane.Rests l' ∧ ∀ js, Leads 5 ((s.touched c x).at n col (.discardQueued c :: js))
      ((s.touched c { x.linked (some { l with
          dir := .outbound limit (k - (gone.filter fun e => e.origin = .host).length)
          phase := .draining m a (satAdd b gone.length) }) with pool := p }).at n
        { col with queue := col.queue.filter fun e => e.chan ≠ c, lane := l' } js) := by
  subst hgone hpool
  let gone := col.queue.filter fun e => e.chan = c
  let x' : Touched := { x.linked (some { l with
      dir := .outbound limit (k - (gone.filter fun e => e.origin = .host).length)
      phase := .draining m a (satAdd b gone.length) }) with
    pool := x.pool.put false gone.length (gone.map fun e => cellsFor e.body.length).sum }
  obtain ⟨l', hrests, hwork⟩ := Leads.works (s := s.touched c x') (n := n)
    (col := { col with queue := col.queue.filter fun e => e.chan ≠ c }) h
  refine ⟨l', hrests, fun js => .nextAt (u := (s.touched c x').at n
    { col with queue := col.queue.filter fun e => e.chan ≠ c } (.serve :: .work n :: js)) ?_
      (.nextAt (serve_alone (by exact hw)) (hwork js))⟩
  refine (discardQueued_at (touched_link.trans hl) hd hp hn).trans ?_
  rw [State.relinked, touched_setLink]
  rfl

/-- Nothing of channel c is left on its spur (R38). -/
theorem State.drained_at (hn : l.spur = n) (hq : ∀ e ∈ col.queue, e.chan ≠ c)
    (hx : ∀ y, col.lane.sending = some y → y.parcel.chan ≠ c)
    (hi : l.isIn = true → col.gather.isPartial = false ∧ col.gather.waiting = none ∧
      col.lane.receiving = none) : (s.at n col js).drained c l = true := by
  have hany : (col.queue.any fun e => decide (e.chan = c)) = false := by
    rw [List.any_eq_false]
    intro e he
    simp [hq e he]
  cases hs : col.lane.sending <;> cases hin : l.isIn <;> simp_all [State.drained]

/-- The drain completes within an execution, whose records are held back (R38, R39, R176). -/
theorem drainTest_closes {m : CloseMode} {a b : Byte} (hl : x.channel.link = some l)
    (hp : l.phase = .draining m a b) (hn : l.spur = n)
    (hdrained : ((s.touched c x).at n col js).drained c l = true) :
    drainTest c ((s.touched c x).at n col js) = (s.touched c { x.linked none with
      notices := x.notices.clearCredit c, records := x.records ++ [.shut c a b] }).at n col
        (.work n :: .decide n :: js) := by
  have hlink : (s.touched c x).link c = some l := touched_link.trans hl
  simp only [drainTest, State.at_link, hlink, hp, hdrained, if_true, State.at_record, touched_record, hn]
  exact congrArg (fun u : State => u.at n col (.work n :: .decide n :: js)) (touched_unlinked (s := s) (c := c)
    (x := { x with records := x.records ++ [.shut c a b] }) (x.notices.clearCredit c))

/-- What follows the drain completion (R39). -/
theorem Leads.drainCloses {m : CloseMode} {a b : Byte} (hl : x.channel.link = some l)
    (hp : l.phase = .draining m a b) (hn : l.spur = n) (hq : ∀ e ∈ col.queue, e.chan ≠ c)
    (hx : ∀ y, col.lane.sending = some y → y.parcel.chan ≠ c)
    (hi : l.isIn = true → col.gather.isPartial = false ∧ col.gather.waiting = none ∧
      col.lane.receiving = none) (h : col.restful) :
    ∃ l' : Lane, col.lane.Rests l' ∧ ∀ js, Leads 6 ((s.touched c x).at n col (.drainTest c :: js))
      ((s.touched c { x.linked none with
        notices := x.notices.clearCredit c, records := x.records ++ [.shut c a b] }).at n
          { col with lane := l' } js) := by
  let u : State := s.touched c { x.linked none with
    notices := x.notices.clearCredit c, records := x.records ++ [.shut c a b] }
  obtain ⟨l1, hrests, hwork⟩ := Leads.works (s := u) (n := n) h
  have h1 := h.rests hrests
  obtain ⟨l2, hrests', hdecide⟩ := Leads.decides (s := u) (n := n) (col := { col with lane := l1 }) h1.1 h1.2
  exact ⟨l2, hrests.trans hrests', fun js => .nextAt (drainTest_closes hl hp hn (State.drained_at hn hq hx hi))
    ((hwork (.decide n :: js)).trans (hdecide js))⟩

theorem Leads.worksDecides (h : col.restful) : ∃ l : Lane, col.lane.Rests l ∧
    ∀ js, Leads 5 (s.at n col (.work n :: .decide n :: js)) (s.at n { col with lane := l } js) := by
  obtain ⟨l1, hrests, hwork⟩ := Leads.works (s := s) (n := n) h
  have h1 := h.rests hrests
  obtain ⟨l2, hrests', hdecide⟩ := Leads.decides (s := s) (n := n) (col := { col with lane := l1 }) h1.1 h1.2
  exact ⟨l2, hrests.trans hrests', fun js => (hwork (.decide n :: js)).trans (hdecide js)⟩

/-- A channel with no tee, which no playback plays onto, enters DRAINING without more ado (R31). -/
theorem Leads.untied {k : Nat} {t : State} (hl : s.link c = some l) (ht : l.tee = none)
    (hc : s.contextOf c = none) (h : Leads k (s.at n col js) t) :
    Leads (k + 2) (s.at n col (.dropTee c :: .endContext c :: js)) t :=
  .nextAt (dropTee_untied hl ht) (.nextAt (j := .endContext c) (endContext_none hc) h)

end entering


/-! ### The gather of an IN channel that enters DRAINING (R109, R114) -/

section gathered
variable {s : State} {c : Chan} {l l' : Link} {n : Spur} {col : Column} {js : List Job} {x : Touched}
  {cls : DataClass} {bs : List Byte}

theorem touched_countParcel (k : Nat) : (s.touched c x).countParcel c k = s.touched c { x with
    channel := { x.channel with
      parcels := x.channel.parcels + 1
      bytes := x.channel.bytes + BitVec.ofNat 32 k } } := by
  rw [State.countParcel, touched_channel, touched_setChannel]

theorem touched_countDrain {m : CloseMode} {a b : Byte} (h : x.channel.link = some l)
    (hp : l.phase = .draining m a b) (i j : Nat) : (s.touched c x).countDrain c i j =
      s.touched c (x.linked (some { l with phase := .draining m (satAdd a i) (satAdd b j) })) :=
  (countDrain_draining (touched_link.trans h) hp i j).trans (touched_setLink _)

/-- One parcel drained (R34, R59). -/
theorem touched_drained (h : x.channel.link = some { l with phase := .draining .drain 0 0 }) (k : Nat) :
    ((s.touched c x).countParcel c k).countDrain c 1 0 = s.touched c { x with
      channel := { x.channel with
        link := some { l with phase := .draining .drain 1 0 }
        parcels := x.channel.parcels + 1
        bytes := x.channel.bytes + BitVec.ofNat 32 k } } := by
  rw [touched_countParcel]
  exact touched_countDrain (x := { x with channel := { x.channel with
    parcels := x.channel.parcels + 1
    bytes := x.channel.bytes + BitVec.ofNat 32 k } }) h rfl 1 0

theorem touched_sameMap (h : x.channel.link = some l) : (s.setLink c (some l)).SameMap (s.touched c x) := by
  refine .of_links (fun d => ?_) rfl
  by_cases hd : d = c
  · rw [hd, touched_link, h, State.link_setLink]
  · rw [State.link_setLink_ne s hd]
    exact congrArg Channel.link (State.channel_setChannel_ne s hd _)

theorem touched_inChan (hl : s.link c = some l) (h : x.channel.link = some l') (hspur : l'.spur = l.spur)
    (hin : l'.isIn = l.isIn) : (s.touched c x).inChan n = s.inChan n :=
  ((touched_sameMap h).inChan n).trans (State.inChan_setLink hl hspur hin n)

theorem touched_openIn (hc : s.inChan n = some c) (hl : s.link c = some l) (h : x.channel.link = some l')
    (hspur : l'.spur = l.spur) (hin : l'.isIn = l.isIn) (hopen : l'.isOpen = false) :
    (s.touched c x).openIn n = none :=
  ((touched_sameMap h).openIn n).trans (State.openIn_closed hc hl hspur hin hopen)

/-- A gather that closes in mode DRAIN and finds room in the data queues (R111, R114). -/
theorem closeGather_drains (hg : col.gather.state = .filling c cls bs) (hb : bs ≠ []) (hl : s.link c = some l)
    (ht : l.tee = none) (hroom : s.arbiter.express.length + s.arbiter.normal.length < 48) :
    closeGather n .close (s.at n col js) = (State.countDrain (State.countParcel { s with
      arbiter := s.arbiter.join cls { chan := c, body := bs } } c bs.length) c 1 0).at n col.closed
        (.retake n :: js) := by
  have hcond : ¬ (bs = [] ∧ Closure.close ≠ .terminator) := fun h => hb h.1
  simp only [closeGather, State.at_gather, hg, State.at_setGather, State.at_push, if_neg hcond,
    forwardGather, capture_at, capture_noTee hl ht, State.at_setGatherState, State.at_arbiter,
    Config.dataQueueDepth, if_pos hroom, State.countClose, if_true]
  exact countDrain_at (State.countParcel { s with
    arbiter := s.arbiter.join cls { chan := c, body := bs } } c bs.length) n col.closed (.retake n :: js) c 1 0

/-- A gather that holds bytes is dropped (R109). -/
theorem dropGather_drops (hg : col.gather.state = .filling c cls bs) (hb : bs ≠ []) (hc : s.inChan n = some c) :
    dropGather n (s.at n col js) = State.at { s.countDrain c 0 1 with
      pool := (s.countDrain c 0 1).pool.put false 1 (cellsFor bs.length) } n col.closed (.serve :: js) := by
  have hcount : 0 < col.gather.count := by
    rw [Gather.count, hg]
    exact List.length_pos_of_ne_nil hb
  simp only [dropGather, State.at_gather, hg, State.at_setGather, State.at_inChan, hc, if_pos hcount,
    countDrain_at, State.at_giveBack]
  rfl

/-- What the gather of an IN channel that enters DRAINING leaves: a parcel drained, or one discarded. -/
def Touched.gatherEnded (x : Touched) (c : Chan) (l : Link) (cls : DataClass) (bs : List Byte) :
    CloseMode → Touched
  | .drain => { x with
      channel := { x.channel with
        link := some { l with phase := .draining .drain 1 0 }
        parcels := x.channel.parcels + 1
        bytes := x.channel.bytes + BitVec.ofNat 32 bs.length }
      arbiter := x.arbiter.join cls { chan := c, body := bs } }
  | .discard => { x.linked (some { l with phase := .draining .discard 0 1 }) with
      pool := x.pool.put false 1 (cellsFor bs.length) }

/-- The step of entry to DRAINING that ends the gather (R31). -/
def gatherJob (n : Spur) : CloseMode → Job
  | .drain => .closeGather n .close
  | .discard => .dropGather n

theorem Leads.gatherEnds {m : CloseMode} (hg : col.gather.state = .filling c cls bs) (hb : bs ≠ [])
    (hl : s.link c = some l) (hx : x.channel.link = some { l with phase := .draining m 0 0 })
    (ht : l.tee = none) (hroom : x.arbiter.express.length + x.arbiter.normal.length < 48)
    (hc : s.inChan n = some c) (hw : x.pool.waiting = []) :
    Leads 2 ((s.touched c x).at n col (gatherJob n m :: js))
      ((s.touched c (x.gatherEnded c l cls bs m)).at n col.closed js) := by
  have hlink : (s.touched c x).link c = some { l with phase := .draining m 0 0 } := touched_link.trans hx
  cases m with
  | drain =>
    have hclosed : (s.touched c (x.gatherEnded c l cls bs .drain)).openIn n = none :=
      touched_openIn hc hl rfl rfl rfl rfl
    have hcount : State.countDrain (State.countParcel { s.touched c x with
        arbiter := x.arbiter.join cls { chan := c, body := bs } } c bs.length) c 1 0 =
        s.touched c (x.gatherEnded c l cls bs .drain) :=
      touched_drained (x := { x with arbiter := x.arbiter.join cls { chan := c, body := bs } }) hx _
    exact .nextAt ((closeGather_drains hg hb hlink ht hroom).trans
      (congrArg (fun u : State => u.at n col.closed (.retake n :: js)) hcount))
        (.nextAt (retake_closed hclosed) (.refl 0 _))
  | discard =>
    have hchan : (s.touched c x).inChan n = some c := (touched_inChan hl hx rfl rfl).trans hc
    have hcount : (s.touched c x).countDrain c 0 1 =
        s.touched c (x.linked (some { l with phase := .draining .discard 0 1 })) :=
      touched_countDrain hx rfl 0 1
    have hdrop := dropGather_drops (js := js) hg hb hchan
    rw [hcount] at hdrop
    exact .nextAt hdrop (.nextAt (serve_alone (by exact hw)) (.refl 0 _))

end gathered


/-! ### CLOSE CHANNEL on an OUT channel -/

section outbound
variable {s : State} {seq : Byte} {c : Chan} {l : Link} {limit k : Nat} {mode m : CloseMode} (hs : Settled s)
  (he : Ready s 11 seq 2 0) (hl : s.link c = some l) (hd : l.dir = .outbound limit k)

/-- The step of entry to DRAINING that removes the queued parcels (R31). -/
def discardJobs (c : Chan) : CloseMode → List Job
  | .drain => []
  | .discard => [.discardQueued c]

theorem closeAs_enters_outbound (hd : l.dir = .outbound limit k) (hl : s.link c = some l)
    (h : l.phase = .opened ∧ m = mode ∨ (∃ why, l.phase = .halted why) ∧ m = .discard) :
    closeAs c mode s = {
      state := (s.setLink c (some { l with phase := .draining m 0 0 })).push (.dropTee c :: .endContext c ::
        (discardJobs c m ++ [.drainTest c, .work l.spur, .decide l.spur]))
      status := .accepted, results := [] } := by
  rw [closeAs_enters hl h]
  unfold drainJobs
  rw [if_neg (by rw [Link.isIn_outbound hd]; decide)]
  cases m <;> rfl

/-- What is touched once the queued parcels of an OUT channel in a drain are removed (R33, R34). -/
def State.discarded (s : State) (c : Chan) (l : Link) (limit k : Nat) (a b : Byte) : Touched :=
  let gone := (s.queue l.spur).filter fun e => e.chan = c
  { (s.touchable c).linked (some { l with
      dir := .outbound limit (k - (gone.filter fun e => e.origin = .host).length)
      phase := .draining .discard a (satAdd b gone.length) }) with
    pool := s.pool.put false gone.length (gone.map fun e => cellsFor e.body.length).sum }

include hs he hd

/-- The queued parcels are removed within the execution (R31, R33, R37). -/
theorem Leads.discardsOutbound {a b : Byte} (h : (s.column l.spur).restful) {mode : CloseMode} :
    let e := s.executing 11 seq (closeParams c mode)
    ∃ l' : Lane, (s.lane l.spur).Rests l' ∧ ∀ js, Leads 5
      ((e.touched c ((e.touchable c).linked (some { l with phase := .draining .discard a b }))).at l.spur
        (s.column l.spur) (.discardQueued c :: js))
      ((e.touched c { s.discarded c l limit k a b with
        pool := (s.discarded c l limit k a b).pool.holding 4 }).at l.spur
          { s.column l.spur with
            queue := (s.queue l.spur).filter fun e => e.chan ≠ c, lane := l' } js) := by
  intro e
  exact Leads.discards (s := e) (n := l.spur) (col := s.column l.spur)
    (x := (e.touchable c).linked (some { l with phase := .draining .discard a b })) rfl hd rfl rfl hs.alone h rfl
    (Pool.holding_put (m := 4) he.descriptor he.requestCells)

include hl

/-- With its parcel on the lane, an OUT channel that is closed in mode DRAIN waits (R31, R38). -/
theorem close_drain_waits {x : Sending} (hopen : l.phase = .opened) (hctx : s.contextOf c = none)
    (ht : l.tee = none) (hr : (s.column l.spur).restful) (hx : (s.lane l.spur).sending = some x)
    (hxc : x.parcel.chan = c) : ∃ col t, ClosedTo s (.closeChannel seq (closeParams c .drain)) seq c l.spur
      ((s.touchable c).linked (some { l with phase := .draining .drain 0 0 })) col t := by
  let e := s.executing 11 seq (closeParams c .drain)
  let x0 := (e.touchable c).linked (some { l with phase := .draining .drain 0 0 })
  have hlink : (e.touched c x0).link c = some { l with phase := .draining .drain 0 0 } := touched_link
  obtain ⟨l', -, hworks⟩ := Leads.worksDecides (s := e.touched c x0) (n := l.spur) hr
  obtain ⟨t, h⟩ := close_accepted (n := l.spur) hs he
    (closeAs_enters_outbound (mode := .drain) (s := e) hd hl (.inl ⟨hopen, rfl⟩))
    (.untied hlink ht hctx (.nextAt (drainTest_waits hlink rfl rfl (.inr (.inl ⟨x, hx, hxc⟩))) (hworks _)))
    (x := (s.touchable c).linked (some { l with phase := .draining .drain 0 0 })) (by norm_num) hs.alone
    he.descriptor he.requestCells
  exact ⟨_, t, h⟩

/-- With its parcel on the lane, an OUT channel that is closed in mode DISCARD waits, its queued parcels
removed (R31, R33, R38). -/
theorem close_discard_waits {x : Sending}
    (h : l.phase = .opened ∧ .discard = mode ∨ (∃ why, l.phase = .halted why))
    (hctx : s.contextOf c = none) (ht : l.tee = none) (hr : (s.column l.spur).restful)
    (hx : (s.lane l.spur).sending = some x) (hxc : x.parcel.chan = c) :
    ∃ l' t, (s.lane l.spur).Rests l' ∧ ClosedTo s (.closeChannel seq (closeParams c mode)) seq c l.spur
      (s.discarded c l limit k 0 0)
      { s.column l.spur with queue := (s.queue l.spur).filter fun e => e.chan ≠ c, lane := l' } t := by
  let e := s.executing 11 seq (closeParams c mode)
  let x0 := (e.touchable c).linked (some { l with phase := .draining .discard 0 0 })
  have hlink : (e.touched c x0).link c = some { l with phase := .draining .discard 0 0 } := touched_link
  obtain ⟨l1, hrests, hdiscards⟩ := Leads.discardsOutbound (mode := mode) (a := 0) (b := 0) hs he hd hr
  let x1 : Touched := { s.discarded c l limit k 0 0 with pool := (s.discarded c l limit k 0 0).pool.holding 4 }
  have hr1 := hr.rests hrests
  obtain ⟨l2, hrests', hworks⟩ := Leads.worksDecides (s := e.touched c x1) (n := l.spur)
    (col := { s.column l.spur with queue := (s.queue l.spur).filter fun e => e.chan ≠ c, lane := l1 }) hr1
  obtain ⟨t, h⟩ := close_accepted (n := l.spur) hs he
    (closeAs_enters_outbound (mode := mode) (s := e) (m := .discard) hd hl (h.imp_right fun h => ⟨h, rfl⟩))
    (.untied hlink ht hctx ((hdiscards _).trans (.nextAt (drainTest_waits touched_link rfl rfl
      (.inr (.inl ⟨x, hrests.sending.trans hx, hxc⟩))) (hworks _))))
    (x := s.discarded c l limit k 0 0) (by norm_num) hs.alone
    (he.descriptor.trans (Nat.le_add_right _ _)) (he.requestCells.trans (Nat.le_add_right _ _))
  exact ⟨l2, t, hrests.trans hrests', h⟩

/-- An upgrade of a drain in mode DRAIN removes the queued parcels (R37). -/
theorem close_upgrade_waits {x : Sending} {a b : Byte} (hp : l.phase = .draining .drain a b)
    (hr : (s.column l.spur).restful) (hx : (s.lane l.spur).sending = some x) (hxc : x.parcel.chan = c) :
    ∃ l' t, (s.lane l.spur).Rests l' ∧ ClosedTo s (.closeChannel seq (closeParams c .discard)) seq c l.spur
      (s.discarded c l limit k a b)
      { s.column l.spur with queue := (s.queue l.spur).filter fun e => e.chan ≠ c, lane := l' } t := by
  let e := s.executing 11 seq (closeParams c .discard)
  obtain ⟨l1, hrests, hdiscards⟩ := Leads.discardsOutbound (mode := .discard) (a := a) (b := b) hs he hd hr
  have hupgrade := closeAs_upgrades (s := e) hl hp
  rw [if_neg (by rw [Link.isIn_outbound hd]; decide)] at hupgrade
  obtain ⟨t, h⟩ := close_accepted (n := l.spur) hs he hupgrade
    ((hdiscards _).trans (.nextAt (drainTest_waits touched_link rfl rfl
      (.inr (.inl ⟨x, hrests.sending.trans hx, hxc⟩))) (.refl 0 _)))
    (x := s.discarded c l limit k a b) (by norm_num) hs.alone
    (he.descriptor.trans (Nat.le_add_right _ _)) (he.requestCells.trans (Nat.le_add_right _ _))
  exact ⟨l1, t, hrests, h⟩

/-- An OUT channel with nothing left closes at once, in either mode (R31, R38, R39). -/
theorem close_completes (hopen : l.phase = .opened) (hctx : s.contextOf c = none) (ht : l.tee = none)
    (hr : (s.column l.spur).restful) (hq : s.queue l.spur = []) (hx : (s.lane l.spur).sending = none) :
    ∃ p col t, ClosedTo s (.closeChannel seq (closeParams c mode)) seq c l.spur
      { (s.touchable c).linked none with
        notices := s.notices.clearCredit c, pool := p, records := [.shut c 0 0] } col t := by
  let e := s.executing 11 seq (closeParams c mode)
  let x0 := (e.touchable c).linked (some { l with phase := .draining mode 0 0 })
  have hlink : (e.touched c x0).link c = some { l with phase := .draining mode 0 0 } := touched_link
  have hin : l.isIn ≠ true := by rw [Link.isIn_outbound hd]; decide
  have henters := closeAs_enters_outbound (mode := mode) (s := e) hd hl (.inl ⟨hopen, rfl⟩)
  have hempty : ∀ e ∈ s.queue l.spur, e.chan ≠ c := by rw [hq]; nofun
  cases mode with
  | drain =>
    obtain ⟨l1, hrests, hcloses⟩ := Leads.drainCloses (s := e) (x := x0) (n := l.spur) (col := s.column l.spur)
      rfl rfl rfl hempty (by rw [show (s.column l.spur).lane.sending = none from hx]; nofun)
      (fun h => absurd h hin) hr
    obtain ⟨l2, -, hworks⟩ := Leads.worksDecides (s := e.touched c { x0.linked none with
      notices := x0.notices.clearCredit c, records := x0.records ++ [.shut c 0 0] }) (n := l.spur)
      (hr.rests hrests)
    obtain ⟨t, h⟩ := close_accepted (n := l.spur) hs he henters
      (.untied hlink ht hctx ((hcloses _).trans (hworks _)))
      (x := { (s.touchable c).linked none with
        notices := s.notices.clearCredit c, records := [.shut c 0 0] }) (by norm_num) hs.alone
      he.descriptor he.requestCells
    exact ⟨_, _, t, h⟩
  | discard =>
    obtain ⟨l1, hrests, hdiscards⟩ := Leads.discardsOutbound (mode := .discard) (a := 0) (b := 0) hs he hd hr
    let x1 : Touched := { s.discarded c l limit k 0 0 with
      pool := (s.discarded c l limit k 0 0).pool.holding 4 }
    have hphase : satAdd 0 ((s.queue l.spur).filter fun e => e.chan = c).length = 0 := by rw [hq]; rfl
    have hr1 := hr.rests hrests
    obtain ⟨l2, hrests2, hcloses⟩ := Leads.drainCloses (s := e) (c := c) (x := x1) (n := l.spur)
      (col := { s.column l.spur with queue := (s.queue l.spur).filter fun e => e.chan ≠ c, lane := l1 }) rfl
      rfl rfl (fun e he => hempty e (List.mem_of_mem_filter he))
      (by rw [hrests.sending, hx]; nofun) (fun h => by cases h) hr1
    obtain ⟨l3, -, hworks⟩ := Leads.worksDecides (s := e.touched c { x1.linked none with
      notices := x1.notices.clearCredit c
      records := x1.records ++ [.shut c 0 (satAdd 0 ((s.queue l.spur).filter fun e => e.chan = c).length)] })
      (n := l.spur) (col := { s.column l.spur with
        queue := (s.queue l.spur).filter fun e => e.chan ≠ c, lane := l2 }) (hr1.rests hrests2)
    rw [hphase] at hcloses hworks
    obtain ⟨t, h⟩ := close_accepted (n := l.spur) hs he henters
      (.untied hlink ht hctx ((hdiscards _).trans ((hcloses _).trans (hworks _))))
      (x := { (s.touchable c).linked none with
        notices := s.notices.clearCredit c, records := [.shut c 0 0]
        pool := (s.discarded c l limit k 0 0).pool }) (by norm_num) hs.alone
      (he.descriptor.trans (Nat.le_add_right _ _)) (he.requestCells.trans (Nat.le_add_right _ _))
    exact ⟨_, _, t, h⟩

end outbound


/-! ### CLOSE CHANNEL on an IN channel -/

theorem Arbiter.join_responses (a : Arbiter) (cls : DataClass) (x : Inbound) :
    (a.join cls x).responses = a.responses := by
  cases cls <;> simp only [Arbiter.join] <;> split <;> rfl

/-- With no parcel of its channel in a data queue, a parcel joins the queue of its class (R111). -/
theorem Arbiter.join_apart {a : Arbiter} {cls : DataClass} {x : Inbound}
    (h : ∀ y ∈ a.express ++ a.normal, y.chan ≠ x.chan) :
    (a.join cls x).express ++ (a.join cls x).normal =
      if cls = .express then a.express ++ x :: a.normal else a.express ++ a.normal ++ [x] := by
  have hexpress : ¬ ∃ y ∈ a.express, y.chan = x.chan := fun ⟨y, hy, hc⟩ => h y (List.mem_append_left _ hy) hc
  have hnormal : ¬ ∃ y ∈ a.normal, y.chan = x.chan := fun ⟨y, hy, hc⟩ => h y (List.mem_append_right _ hy) hc
  obtain ⟨hn, hx⟩ := a.join_eq cls x
  cases cls with
  | normal =>
    rw [hn (.inl ⟨rfl, hexpress⟩), if_neg (by decide)]
    exact (List.append_assoc _ _ _).symm
  | express =>
    rw [hx (.inl ⟨rfl, hnormal⟩), if_pos rfl]
    exact List.append_assoc _ _ _

section inbound
variable {s : State} {seq : Byte} {c : Chan} {l : Link} {i : InSettings} {m : CloseMode} {cls : DataClass}
  {bs : List Byte} (hs : Settled s) (he : Ready s 11 seq 2 0) (hl : s.link c = some l)

theorem closeAs_enters_inbound (hl : s.link c = some l) (hd : l.dir = .inbound i) (hopen : l.phase = .opened) :
    closeAs c m s = {
      state := (s.setLink c (some { l with phase := .draining m 0 0 })).push (.dropWaiting l.spur ::
        gatherJob l.spur m :: .dropTee c :: .endContext c :: .stopTaking l.spur :: .acknowledge l.spur ::
          [.drainTest c, .decide l.spur])
      status := .accepted, results := [] } := by
  rw [closeAs_enters hl (.inl ⟨hopen, rfl⟩)]
  unfold drainJobs
  rw [if_pos (show l.isIn = true by rw [Link.isIn, hd])]
  cases m <;> rfl

/-- What is touched once the gather of an IN channel that is closed has ended. -/
def State.gathered (s : State) (c : Chan) (l : Link) (cls : DataClass) (bs : List Byte) (m : CloseMode) :
    Touched :=
  (s.touchable c).gatherEnded c l cls bs m

/-- The column of an IN channel that is closed, once its gather has ended and its lane takes no beats. -/
def Column.left (col : Column) : Column :=
  { col.untested.closed with lane := col.lane.untested.stopped }

/-- The parcels counted as drained, and as discarded, by the gather of a channel that is closed (R114). -/
def CloseMode.drained : CloseMode → Byte
  | .drain => 1
  | .discard => 0

def CloseMode.discarded : CloseMode → Byte
  | .drain => 0
  | .discard => 1

theorem gathered_link : (s.gathered c l cls bs m).channel.link =
    some { l with phase := .draining m m.drained m.discarded } := by
  cases m <;> rfl

theorem gathered_pool : (s.gathered c l cls bs m).pool.waiting = s.pool.waiting ∧
    s.pool.freeDescriptors ≤ (s.gathered c l cls bs m).pool.freeDescriptors ∧
    s.pool.freeCells ≤ (s.gathered c l cls bs m).pool.freeCells := by
  cases m with
  | drain => exact ⟨rfl, le_refl _, le_refl _⟩
  | discard => exact ⟨rfl, Nat.le_add_right _ _, Nat.le_add_right _ _⟩

variable (hc : s.inChan l.spur = some c) (ht : l.tee = none)
  (hctx : s.contextOf c = none) (hg : (s.gather l.spur).state = .filling c cls bs)
  (hwait : (s.gather l.spur).waiting = none) (hb : bs ≠ [])
  (hroom : s.arbiter.express.length + s.arbiter.normal.length < 48)
  (hheld : ∀ b, (s.lane l.spur).receiving = some b → b.phase ≠ .held)
include hs he hl hc ht hctx hg hwait hb hroom hheld

/-- Entry to DRAINING up to the drain completion test (R31, R92, R109, R114). -/
theorem Leads.entersInbound (js : List Job) :
    let e := s.executing 11 seq (closeParams c m)
    Leads 7 ((e.touched c ((e.touchable c).linked (some { l with phase := .draining m 0 0 }))).at l.spur
        (s.column l.spur) (.dropWaiting l.spur :: gatherJob l.spur m :: .dropTee c :: .endContext c ::
          .stopTaking l.spur :: .acknowledge l.spur :: js))
      ((e.touched c { s.gathered c l cls bs m with pool := (s.gathered c l cls bs m).pool.holding 4 }).at l.spur
        (s.column l.spur).left js) := by
  intro e
  let x0 := (e.touchable c).linked (some { l with phase := .draining m 0 0 })
  let x1 : Touched := { s.gathered c l cls bs m with pool := (s.gathered c l cls bs m).pool.holding 4 }
  have hgathered : x0.gatherEnded c l cls bs m = x1 := by
    cases m with
    | drain => rfl
    | discard =>
      exact congrArg (fun p : Pool => { (e.touchable c).linked (some { l with phase := .draining .discard 0 1 })
        with pool := p }) (Pool.holding_put (m := 4) he.descriptor he.requestCells)
  have hends := Leads.gatherEnds (s := e) (x := x0) (n := l.spur) (col := (s.column l.spur).untested)
    (js := .dropTee c :: .endContext c :: .stopTaking l.spur :: .acknowledge l.spur :: js)
    hg hb hl rfl ht hroom hc hs.alone
  rw [hgathered] at hends
  have hlink : (e.touched c x1).link c = some { l with phase := .draining m m.drained m.discarded } :=
    touched_link.trans gathered_link
  have hunheld : ∀ b, (s.column l.spur).left.lane.receiving = some b → b.phase ≠ .held := by
    intro b hb
    obtain ⟨b', hb', rfl⟩ := Option.map_eq_some_iff.mp hb
    exact hheld b' hb'
  exact .nextAt (dropWaiting_none hwait) (hends.trans (.untied hlink ht hctx
    (.nextAt (stopTaking_at _ _ _ _) (.nextAt (j := .acknowledge l.spur) (acknowledge_unheld hunheld)
      (.refl 0 _)))))

/-- With nothing of it left, an IN channel that is closed closes at once (R38, R39). -/
theorem close_inbound_completes (hd : l.dir = .inbound i) (hopen : l.phase = .opened)
    (hst : (s.lane l.spur).state = .idleIn) (hrecv : (s.lane l.spur).receiving = none)
    (hsend : (s.lane l.spur).sending = none) (hq : ∀ e ∈ s.queue l.spur, e.chan ≠ c) :
    ∃ l' t, (s.column l.spur).left.lane.Rests l' ∧
      ClosedTo s (.closeChannel seq (closeParams c m)) seq c l.spur
        { (s.gathered c l cls bs m).linked none with
          notices := (s.gathered c l cls bs m).notices.clearCredit c
          records := (s.gathered c l cls bs m).records ++ [.shut c m.drained m.discarded] }
        { (s.column l.spur).left with lane := l' } t := by
  let e := s.executing 11 seq (closeParams c m)
  let g := s.gathered c l cls bs m
  let x1 : Touched := { g with pool := g.pool.holding 4 }
  have hr : (s.column l.spur).left.restful := 
    ⟨by rw [show (s.column l.spur).left.lane.state = .idleIn from hst]; decide, fun _ => rfl⟩
  obtain ⟨l1, hrests, hcloses⟩ := Leads.drainCloses (s := e) (c := c) (x := x1) (n := l.spur)
    (col := (s.column l.spur).left) gathered_link rfl rfl hq
    (by rw [show (s.column l.spur).left.lane.sending = none from hsend]; nofun)
    (fun _ => ⟨rfl, hwait, congrArg (Option.map _) hrecv⟩) hr
  have hr1 := hr.rests hrests
  let x2 : Touched := { x1.linked none with
    notices := x1.notices.clearCredit c, records := x1.records ++ [.shut c m.drained m.discarded] }
  obtain ⟨l2, hrests', hdecide⟩ := Leads.decides (s := e.touched c x2) (n := l.spur)
    (col := { (s.column l.spur).left with lane := l1 }) hr1.1 hr1.2
  obtain ⟨hwaiting, hdescriptors, hcells⟩ := gathered_pool (s := s) (c := c) (l := l) (cls := cls) (bs := bs)
    (m := m)
  obtain ⟨t, h⟩ := close_accepted (n := l.spur) hs he
    (closeAs_enters_inbound (s := e) hl hd hopen)
    ((Leads.entersInbound hs he hl hc ht hctx hg hwait hb hroom hheld _).trans
      ((hcloses _).trans (hdecide _)))
    (x := { g.linked none with
      notices := g.notices.clearCredit c, records := g.records ++ [.shut c m.drained m.discarded] })
    (by norm_num) (hwaiting.trans hs.alone) (he.descriptor.trans hdescriptors)
    (he.requestCells.trans hcells)
  exact ⟨l2, t, hrests.trans hrests', h⟩

/-- With a beat in progress, an IN channel that is closed waits (R38, R92). -/
theorem close_inbound_waits {b : Receiving} (hd : l.dir = .inbound i) (hopen : l.phase = .opened)
    (hst : (s.lane l.spur).state = .receiving) (hrecv : (s.lane l.spur).receiving = some b) :
    ∃ l' t, (s.column l.spur).left.lane.Rests l' ∧
      ClosedTo s (.closeChannel seq (closeParams c m)) seq c l.spur (s.gathered c l cls bs m)
        { (s.column l.spur).left with lane := l' } t := by
  let e := s.executing 11 seq (closeParams c m)
  let g := s.gathered c l cls bs m
  let x1 : Touched := { g with pool := g.pool.holding 4 }
  have hrecv' : (s.column l.spur).left.lane.receiving ≠ none := by
    rw [show (s.column l.spur).left.lane.receiving = some { b with tests := false } from
      congrArg (Option.map _) hrecv]
    nofun
  obtain ⟨l1, hrests, hdecide⟩ := Leads.decides (s := e.touched c x1) (n := l.spur)
    (col := (s.column l.spur).left)
    (by rw [show (s.column l.spur).left.lane.state = .receiving from hst]; decide) fun _ => rfl
  obtain ⟨hwaiting, hdescriptors, hcells⟩ := gathered_pool (s := s) (c := c) (l := l) (cls := cls) (bs := bs)
    (m := m)
  obtain ⟨t, h⟩ := close_accepted (n := l.spur) hs he
    (closeAs_enters_inbound (s := e) hl hd hopen)
    ((Leads.entersInbound hs he hl hc ht hctx hg hwait hb hroom hheld _).trans
      (.nextAt (drainTest_waits (touched_link.trans gathered_link) rfl rfl
        (.inr (.inr ⟨by simp only [Link.isIn, hd], .inr hrecv'⟩))) (hdecide _)))
    (x := g) (by norm_num) (hwaiting.trans hs.alone) (he.descriptor.trans hdescriptors)
    (he.requestCells.trans hcells)
  exact ⟨l1, t, hrests, h⟩

end inbound


/-! ### The obligation -/

/-- What the gather of an IN channel that was closed leaves (R31, R109, R114). -/
theorem gathered_facts {s : State} {c : Chan} {l : Link} {cls : DataClass} {bs : List Byte} {m : CloseMode}
    (happart : ∀ y ∈ s.arbiter.express ++ s.arbiter.normal, y.chan ≠ c) :
    let x := s.gathered c l cls bs m
    x.arbiter.responses = s.arbiter.responses ∧
    (m = .drain → x.channel.parcels = (s.channel c).parcels + 1 ∧
      x.channel.bytes = (s.channel c).bytes + BitVec.ofNat 32 bs.length ∧ x.pool = s.pool ∧
      x.arbiter.express ++ x.arbiter.normal =
        if cls = .express then s.arbiter.express ++ { chan := c, body := bs } :: s.arbiter.normal
        else s.arbiter.express ++ s.arbiter.normal ++ [{ chan := c, body := bs }]) ∧
    (m = .discard → x.channel.parcels = (s.channel c).parcels ∧ x.channel.bytes = (s.channel c).bytes ∧
      x.pool = s.pool.put false 1 (cellsFor bs.length) ∧ x.arbiter.express = s.arbiter.express ∧
      x.arbiter.normal = s.arbiter.normal) ∧
    x.notices = s.notices ∧ x.records = [] := by
  cases m with
  | drain => exact ⟨Arbiter.join_responses _ _ _, fun _ => ⟨rfl, rfl, rfl, Arbiter.join_apart happart⟩, nofun,
      rfl, rfl⟩
  | discard => exact ⟨rfl, nofun, fun _ => ⟨rfl, rfl, rfl, rfl, rfl⟩, rfl, rfl⟩

section settled
variable {s : State} {seq : Byte} {c : Chan} (hs : Settled s) (he : Ready s 11 seq 2 0)
include hs he

/-- The refusals of R30. -/
theorem close_refused {mode : CloseMode}
    (h : closeAs c mode (s.executing 11 seq (closeParams c mode)) =
      (s.executing 11 seq (closeParams c mode)).refuse .state) :
    exec (.closeChannel seq (closeParams c mode)) s = .next (s.answered 11 seq .state []) :=
  request_refuses (ps := closeParams c mode) hs he rfl ((closeChannel_eq _).trans h)

end settled

/-- With no parcel queued there is none to remove. -/
theorem discarded_link_empty {s : State} {c : Chan} {l : Link} {limit k : Nat} {a b : Byte}
    (hd : l.dir = .outbound limit k) (hq : s.queue l.spur = []) :
    (s.discarded c l limit k a b).channel.link = some { l with phase := .draining .discard a b } := by
  simp [State.discarded, Touched.linked, hq, satAdd_zero, hd]

/-- The record of a drain completion (R39). -/
theorem Notices.shut_arrives {nb : Notices} (h : nb.fifo.length < 48) (c : Chan) (a b : Byte) :
    ((nb.clearCredit c).arrive (.shut c a b)).fifo = nb.fifo ++ [.shut c a b] ∧
      ((nb.clearCredit c).arrive (.shut c a b)).credits[c.val] = 0 := by
  refine ⟨congrArg Notices.fifo (Notices.arrive_room (nb := nb.clearCredit c) h _), ?_⟩
  rw [Notices.arrive_credits, Notices.clearCredit_credit, if_pos rfl]

theorem Column.restful.of_state {col : Column} {st : LaneState} (h : col.lane.state = st)
    (ho : st ≠ .idleOut := by decide) (hi : st ≠ .idleIn := by decide) : col.restful :=
  ⟨h ▸ ho, fun h' => absurd (h.symm.trans h') hi⟩

/-- Settles O39. -/
theorem closeChannelDrains : Obligations.CloseChannelDrains := by
  unfold Obligations.CloseChannelDrains
  intro s seq c hs he close
  refine ⟨fun m hl => close_refused (mode := m) hs he (closeAs_closed hl), fun l hl => ?_⟩
  refine ⟨fun m a b hp => close_refused (mode := .drain) hs he (closeAs_again hl hp),
    fun a b hp => request_effect (t := s) (ps := closeParams c .discard) hs he rfl
      ((closeChannel_eq _).trans (closeAs_discarding (s := s.executing 11 seq _) hl hp)),
    fun m limit k x hd hctx hq hst hx hxc ht hp => ?_, fun m limit k hd hp hctx hq hst hx ht hroom => ?_,
    fun limit k x hd hctx hst hx hxc ht => ?_,
    fun m i c' cls bs hd hc hp ht hsend hctx hqueue hg hwait hcc hb hroom happart hfifo => ?_⟩
  · have hr : (s.column l.spur).restful := .of_state hst
    have hdiscards : (l.phase = .opened ∧ .discard = m ∨ ∃ why, l.phase = .halted why) → ∃ t,
        exec (close m) s = .next t ∧
          t.arbiter.responses = s.arbiter.responses ++ [reply 11 seq .accepted [] false] ∧
          t.link c = some { l with phase := .draining .discard 0 0 } := by
      intro h
      obtain ⟨l', t, -, ht⟩ := close_discard_waits (mode := m) hs he hl hd h hctx ht hr hx hxc
      exact ⟨t, ht.next, congrArg Arbiter.responses ht.arbiter, ht.link.trans (discarded_link_empty hd hq)⟩
    rcases hp with hopen | ⟨why, hhalted⟩
    · cases m with
      | drain =>
        obtain ⟨col, t, ht⟩ := close_drain_waits hs he hl hd hopen hctx ht hr hx hxc
        refine ⟨t, ht.next, congrArg Arbiter.responses ht.arbiter, fun _ => ht.link, fun ⟨why, h⟩ => ?_⟩
        rw [hopen] at h
        cases h
      | discard =>
        obtain ⟨t, hnext, hresponses, hlink⟩ := hdiscards (.inl ⟨hopen, rfl⟩)
        exact ⟨t, hnext, hresponses, fun _ => hlink, fun _ => hlink⟩
    · obtain ⟨t, hnext, hresponses, hlink⟩ := hdiscards (.inr ⟨why, hhalted⟩)
      refine ⟨t, hnext, hresponses, fun h => ?_, fun _ => hlink⟩
      rw [hhalted] at h
      cases h
  · have hr : (s.column l.spur).restful := .of_state hst
    obtain ⟨p, col, t, ht⟩ := close_completes (mode := m) hs he hl hd hp hctx ht hr hq hx
    obtain ⟨hshut, hcredit⟩ := Notices.shut_arrives hroom c 0 0
    have hchannel : t.channel c = { s.channel c with link := none } := ht.channel
    refine ⟨t, ht.next, congrArg Arbiter.responses ht.arbiter, ht.link,
      (congrArg (fun nb : Notices => nb.credits[c.val]) ht.notices).trans hcredit,
      (congrArg Notices.fifo ht.notices).trans hshut, ?_, ?_, ?_⟩ <;> rw [hchannel]
  · intro gone hosts removed
    have hr : (s.column l.spur).restful := .of_state hst
    have hremoved : ∀ {mode a b l' t}, (s.lane l.spur).Rests l' →
        ClosedTo s (.closeChannel seq (closeParams c mode)) seq c l.spur (s.discarded c l limit k a b)
          { s.column l.spur with queue := (s.queue l.spur).filter fun e => e.chan ≠ c, lane := l' } t →
        removed mode a b := fun hrests ht =>
      ⟨_, ht.next, congrArg Arbiter.responses ht.arbiter, congrArg Column.queue ht.column, ht.link,
        congrArg (fun nb : Notices => nb.credits[c.val]) ht.notices,
        (congrArg (fun col : Column => col.lane.sending) ht.column).trans (hrests.sending.trans hx), ht.pool⟩
    refine ⟨fun hopen => ?_, fun mode why hhalted => ?_, fun a b hp => ?_⟩
    · obtain ⟨l', t, hrests, ht⟩ := close_discard_waits (mode := .discard) hs he hl hd (.inl ⟨hopen, rfl⟩) hctx
        ht hr hx hxc
      exact hremoved hrests ht
    · obtain ⟨l', t, hrests, ht⟩ := close_discard_waits (mode := mode) hs he hl hd (.inr ⟨why, hhalted⟩) hctx
        ht hr hx hxc
      exact hremoved hrests ht
    · obtain ⟨l', t, hrests, ht⟩ := close_upgrade_waits hs he hl hd hp hr hx hxc
      exact hremoved hrests ht
  · subst hcc
    intro x ended drained discarded
    obtain ⟨hresponses, hdrain, hdiscard, hnotices, hrecords⟩ := gathered_facts (s := s) (l := l) (cls := cls)
      (bs := bs) (m := m) happart
    have hended : ∀ {y : Touched} {l' : Lane} {t : State}, (s.column l.spur).left.lane.Rests l' →
        ClosedTo s (.closeChannel seq (closeParams c' m)) seq c' l.spur y
          { (s.column l.spur).left with lane := l' } t →
        y.arbiter = (s.gathered c' l cls bs m).arbiter → y.pool = (s.gathered c' l cls bs m).pool →
        y.channel.parcels = (s.gathered c' l cls bs m).channel.parcels →
        y.channel.bytes = (s.gathered c' l cls bs m).channel.bytes → ended t := by
      intro y l' t hrests ht harbiter hpool hparcels hbytes
      have hpool' : t.pool = (s.gathered c' l cls bs m).pool.holding 3 := by rw [ht.pool, hpool]
      have harbiter' : t.arbiter = { (s.gathered c' l cls bs m).arbiter with
          responses := s.arbiter.responses ++ [reply 11 seq .accepted [] false] } := by
        rw [ht.arbiter, harbiter, hresponses]
      refine ⟨ht.next, congrArg (fun col : Column => col.gather.state) ht.column,
        congrArg (fun col : Column => col.gather.idleTimer) ht.column,
        (congrArg (fun col : Column => col.lane.inSnap) ht.column).trans (hrests.inSnap rfl),
        congrArg Arbiter.responses harbiter', fun hm => ?_, fun hm => ?_⟩
      · obtain ⟨h1, h2, h3, h4⟩ := hdrain hm
        rw [ht.channel, hparcels, hbytes, hpool', h3, harbiter']
        exact ⟨h1, h2, rfl, h4⟩
      · obtain ⟨h1, h2, h3, h4, h5⟩ := hdiscard hm
        rw [ht.channel, hparcels, hbytes, hpool', h3, harbiter']
        exact ⟨h1, h2, rfl, h4, h5⟩
    refine ⟨fun hst hrecv => ?_, fun b hst hrecv hheld => ?_⟩
    · obtain ⟨l', t, hrests, ht⟩ := close_inbound_completes hs he hl hc ht hctx hg hwait hb hroom
        (by rw [hrecv]; nofun) hd hp hst hrecv hsend hqueue (m := m)
      refine ⟨t, hended hrests ht rfl rfl rfl rfl, ht.link, ?_⟩
      have hrecord : t.notices = (s.notices.clearCredit c').arrive (.shut c' m.drained m.discarded) := by
        refine ht.notices.trans ?_
        simp only [hnotices, hrecords, List.nil_append, List.foldl_cons, List.foldl_nil]
      rw [hrecord, (Notices.shut_arrives hfifo c' _ _).1]
      cases m <;> rfl
    · obtain ⟨l', t, hrests, ht⟩ := close_inbound_waits hs he hl hc ht hctx hg hwait hb hroom
        (by rw [hrecv]; rintro b' ⟨⟩; exact hheld) hd hp hst hrecv (m := m)
      refine ⟨t, hended hrests ht rfl rfl rfl rfl, ?_, ?_, ?_⟩
      · rw [ht.notices, hnotices, hrecords]
        rfl
      · rw [ht.link, gathered_link]
        cases m <;> rfl
      · refine (congrArg (fun col : Column => col.lane.receiving) ht.column).trans (hrests.receiving.trans ?_)
        exact congrArg (Option.map _) hrecv

end Sys2Proof.Machine
end
